-- ==== Sys2Proof/Word.lean ====
section
/-! DEFINITION. The word types of SFCB: a byte of a stream, a 32-bit register or command word, a 12-bit
LZW code (rule R6 of 00_scope.md: bits are numbered from 0 at the least significant end). -/

namespace Sys2Proof

/-- One byte of a stream, an unsigned value 0 to 255 (R6). -/
abbrev Byte := BitVec 8

/-- A control or status register, a command word, a response word (R21, R91, R94). -/
abbrev Word := BitVec 32

/-- An LZW code zero-extended to 12 bits (R90), and the width of the field `SYM` (R24). -/
abbrev Code := BitVec 12

end Sys2Proof
end

