-- ==== Sys2Proof/Syntax.lean ====
section
/-! DEFINITION. The instructions of SFCB, whole: one constructor per row of spec/opcode_table.json. Twelve are
the command words a host writes to `CMD` (rule R92 of 30_encoding.md); the others are the classes into
which the engine decodes the symbols of a PUSH (R90): a byte of base-85 text (`A85CH`; `A85CH_T` after a
`~`), a byte of base-16 text (`AHXCH`), an LZW code (`LZWCODE`) and the tag of a PNG-predicted row
(`PNGTAG`). A row that one value selects has no operand; a row that is a block of values carries the
symbol itself, and WellFormed says which symbols belong to the block (R107: `v & mask == match`). -/

namespace Sys2Proof

/-- An encoded instruction: which of the six formats of R90 it stands in, and its bits there. The format
is never in the bits: the port a word arrives on, or the decoder that is running, fixes it (R96, R99). -/
inductive Enc where
  /-- A 32-bit command word written to `CMD` (R91). -/
  | cmd (w : Word)
  /-- A byte of base-85 text met with `tilde = 0` (R96). -/
  | a85ch (ch : Byte)
  /-- A byte of base-85 text met with `tilde = 1` (R96). -/
  | a85chT (ch : Byte)
  /-- A byte of base-16 text (R98). -/
  | ahxch (ch : Byte)
  /-- An LZW code, zero-extended to 12 bits (R99). -/
  | lzwcode (code : Code)
  /-- The tag byte that opens a PNG-predicted row (R100). -/
  | pngtag (tag : Byte)
  deriving DecidableEq, Repr

/-- The instructions, in the order of spec/opcode_table.json. -/
inductive Instr where
  /-- `NOP` (R122). -/
  | nop
  /-- `START_A85.DEC` (R124). -/
  | startA85Dec
  /-- `START_A85.ENC` (R125). -/
  | startA85Enc
  /-- `START_AHX.DEC` (R126). -/
  | startAhxDec
  /-- `START_AHX.ENC` (R127). -/
  | startAhxEnc
  /-- `START_LZW.DEC` (R128). -/
  | startLzwDec
  /-- `START_LZW.ENC` (R129). -/
  | startLzwEnc
  /-- `START_PRED.DEC` (R130). -/
  | startPredDec
  /-- `START_PRED.ENC` (R131). -/
  | startPredEnc
  /-- `PUSH` (R132). -/
  | push
  /-- `FINISH` (R133). -/
  | finish
  /-- `ABORT` (R134). -/
  | abort
  /-- `A85CH.WS_0x00-0x00` (R145). -/
  | a85chWs00
  /-- `A85CH.WS_0x09-0x09` (R145). -/
  | a85chWs09
  /-- `A85CH.WS_0x0A-0x0A` (R145). -/
  | a85chWs0A
  /-- `A85CH.WS_0x0C-0x0D` (R145). -/
  | a85chWs0Cto0D (ch : Byte)
  /-- `A85CH.WS_0x20-0x20` (R145). -/
  | a85chWs20
  /-- `A85CH.DIGIT_0x21-0x21` (R147). -/
  | a85chDigit21
  /-- `A85CH.DIGIT_0x22-0x23` (R147). -/
  | a85chDigit22to23 (ch : Byte)
  /-- `A85CH.DIGIT_0x24-0x27` (R147). -/
  | a85chDigit24to27 (ch : Byte)
  /-- `A85CH.DIGIT_0x28-0x2F` (R147). -/
  | a85chDigit28to2F (ch : Byte)
  /-- `A85CH.DIGIT_0x30-0x3F` (R147). -/
  | a85chDigit30to3F (ch : Byte)
  /-- `A85CH.DIGIT_0x40-0x5F` (R147). -/
  | a85chDigit40to5F (ch : Byte)
  /-- `A85CH.DIGIT_0x60-0x6F` (R147). -/
  | a85chDigit60to6F (ch : Byte)
  /-- `A85CH.DIGIT_0x70-0x73` (R147). -/
  | a85chDigit70to73 (ch : Byte)
  /-- `A85CH.DIGIT_0x74-0x75` (R147). -/
  | a85chDigit74to75 (ch : Byte)
  /-- `A85CH.Z_0x7A-0x7A` (R146). -/
  | a85chZ7A
  /-- `A85CH.TILDE_0x7E-0x7E` (R148). -/
  | a85chTilde7E
  /-- `A85CH.BAD_0x01-0x01` (R151). -/
  | a85chBad01
  /-- `A85CH.BAD_0x02-0x03` (R151). -/
  | a85chBad02to03 (ch : Byte)
  /-- `A85CH.BAD_0x04-0x07` (R151). -/
  | a85chBad04to07 (ch : Byte)
  /-- `A85CH.BAD_0x08-0x08` (R151). -/
  | a85chBad08
  /-- `A85CH.BAD_0x0B-0x0B` (R151). -/
  | a85chBad0B
  /-- `A85CH.BAD_0x0E-0x0F` (R151). -/
  | a85chBad0Eto0F (ch : Byte)
  /-- `A85CH.BAD_0x10-0x1F` (R151). -/
  | a85chBad10to1F (ch : Byte)
  /-- `A85CH.BAD_0x76-0x77` (R151). -/
  | a85chBad76to77 (ch : Byte)
  /-- `A85CH.BAD_0x78-0x79` (R151). -/
  | a85chBad78to79 (ch : Byte)
  /-- `A85CH.BAD_0x7B-0x7B` (R151). -/
  | a85chBad7B
  /-- `A85CH.BAD_0x7C-0x7D` (R151). -/
  | a85chBad7Cto7D (ch : Byte)
  /-- `A85CH.BAD_0x7F-0x7F` (R151). -/
  | a85chBad7F
  /-- `A85CH.BAD_0x80-0xFF` (R151). -/
  | a85chBad80toFF (ch : Byte)
  /-- `A85CH_T.WS_0x00-0x00` (R145). -/
  | a85chTWs00
  /-- `A85CH_T.WS_0x09-0x09` (R145). -/
  | a85chTWs09
  /-- `A85CH_T.WS_0x0A-0x0A` (R145). -/
  | a85chTWs0A
  /-- `A85CH_T.WS_0x0C-0x0D` (R145). -/
  | a85chTWs0Cto0D (ch : Byte)
  /-- `A85CH_T.WS_0x20-0x20` (R145). -/
  | a85chTWs20
  /-- `A85CH_T.GT_0x3E-0x3E` (R149). -/
  | a85chTGt3E
  /-- `A85CH_T.BAD_0x01-0x01` (R148). -/
  | a85chTBad01
  /-- `A85CH_T.BAD_0x02-0x03` (R148). -/
  | a85chTBad02to03 (ch : Byte)
  /-- `A85CH_T.BAD_0x04-0x07` (R148). -/
  | a85chTBad04to07 (ch : Byte)
  /-- `A85CH_T.BAD_0x08-0x08` (R148). -/
  | a85chTBad08
  /-- `A85CH_T.BAD_0x0B-0x0B` (R148). -/
  | a85chTBad0B
  /-- `A85CH_T.BAD_0x0E-0x0F` (R148). -/
  | a85chTBad0Eto0F (ch : Byte)
  /-- `A85CH_T.BAD_0x10-0x1F` (R148). -/
  | a85chTBad10to1F (ch : Byte)
  /-- `A85CH_T.BAD_0x21-0x21` (R148). -/
  | a85chTBad21
  /-- `A85CH_T.BAD_0x22-0x23` (R148). -/
  | a85chTBad22to23 (ch : Byte)
  /-- `A85CH_T.BAD_0x24-0x27` (R148). -/
  | a85chTBad24to27 (ch : Byte)
  /-- `A85CH_T.BAD_0x28-0x2F` (R148). -/
  | a85chTBad28to2F (ch : Byte)
  /-- `A85CH_T.BAD_0x30-0x37` (R148). -/
  | a85chTBad30to37 (ch : Byte)
  /-- `A85CH_T.BAD_0x38-0x3B` (R148). -/
  | a85chTBad38to3B (ch : Byte)
  /-- `A85CH_T.BAD_0x3C-0x3D` (R148). -/
  | a85chTBad3Cto3D (ch : Byte)
  /-- `A85CH_T.BAD_0x3F-0x3F` (R148). -/
  | a85chTBad3F
  /-- `A85CH_T.BAD_0x40-0x7F` (R148). -/
  | a85chTBad40to7F (ch : Byte)
  /-- `A85CH_T.BAD_0x80-0xFF` (R148). -/
  | a85chTBad80toFF (ch : Byte)
  /-- `AHXCH.WS_0x00-0x00` (R163). -/
  | ahxchWs00
  /-- `AHXCH.WS_0x09-0x09` (R163). -/
  | ahxchWs09
  /-- `AHXCH.WS_0x0A-0x0A` (R163). -/
  | ahxchWs0A
  /-- `AHXCH.WS_0x0C-0x0D` (R163). -/
  | ahxchWs0Cto0D (ch : Byte)
  /-- `AHXCH.WS_0x20-0x20` (R163). -/
  | ahxchWs20
  /-- `AHXCH.HEX_0x30-0x37` (R164). -/
  | ahxchHex30to37 (ch : Byte)
  /-- `AHXCH.HEX_0x38-0x39` (R164). -/
  | ahxchHex38to39 (ch : Byte)
  /-- `AHXCH.HEX_0x41-0x41` (R164). -/
  | ahxchHex41
  /-- `AHXCH.HEX_0x42-0x43` (R164). -/
  | ahxchHex42to43 (ch : Byte)
  /-- `AHXCH.HEX_0x44-0x45` (R164). -/
  | ahxchHex44to45 (ch : Byte)
  /-- `AHXCH.HEX_0x46-0x46` (R164). -/
  | ahxchHex46
  /-- `AHXCH.HEX_0x61-0x61` (R164). -/
  | ahxchHex61
  /-- `AHXCH.HEX_0x62-0x63` (R164). -/
  | ahxchHex62to63 (ch : Byte)
  /-- `AHXCH.HEX_0x64-0x65` (R164). -/
  | ahxchHex64to65 (ch : Byte)
  /-- `AHXCH.HEX_0x66-0x66` (R164). -/
  | ahxchHex66
  /-- `AHXCH.GT_0x3E-0x3E` (R165). -/
  | ahxchGt3E
  /-- `AHXCH.BAD_0x01-0x01` (R166). -/
  | ahxchBad01
  /-- `AHXCH.BAD_0x02-0x03` (R166). -/
  | ahxchBad02to03 (ch : Byte)
  /-- `AHXCH.BAD_0x04-0x07` (R166). -/
  | ahxchBad04to07 (ch : Byte)
  /-- `AHXCH.BAD_0x08-0x08` (R166). -/
  | ahxchBad08
  /-- `AHXCH.BAD_0x0B-0x0B` (R166). -/
  | ahxchBad0B
  /-- `AHXCH.BAD_0x0E-0x0F` (R166). -/
  | ahxchBad0Eto0F (ch : Byte)
  /-- `AHXCH.BAD_0x10-0x1F` (R166). -/
  | ahxchBad10to1F (ch : Byte)
  /-- `AHXCH.BAD_0x21-0x21` (R166). -/
  | ahxchBad21
  /-- `AHXCH.BAD_0x22-0x23` (R166). -/
  | ahxchBad22to23 (ch : Byte)
  /-- `AHXCH.BAD_0x24-0x27` (R166). -/
  | ahxchBad24to27 (ch : Byte)
  /-- `AHXCH.BAD_0x28-0x2F` (R166). -/
  | ahxchBad28to2F (ch : Byte)
  /-- `AHXCH.BAD_0x3A-0x3B` (R166). -/
  | ahxchBad3Ato3B (ch : Byte)
  /-- `AHXCH.BAD_0x3C-0x3D` (R166). -/
  | ahxchBad3Cto3D (ch : Byte)
  /-- `AHXCH.BAD_0x3F-0x3F` (R166). -/
  | ahxchBad3F
  /-- `AHXCH.BAD_0x40-0x40` (R166). -/
  | ahxchBad40
  /-- `AHXCH.BAD_0x47-0x47` (R166). -/
  | ahxchBad47
  /-- `AHXCH.BAD_0x48-0x4F` (R166). -/
  | ahxchBad48to4F (ch : Byte)
  /-- `AHXCH.BAD_0x50-0x5F` (R166). -/
  | ahxchBad50to5F (ch : Byte)
  /-- `AHXCH.BAD_0x60-0x60` (R166). -/
  | ahxchBad60
  /-- `AHXCH.BAD_0x67-0x67` (R166). -/
  | ahxchBad67
  /-- `AHXCH.BAD_0x68-0x6F` (R166). -/
  | ahxchBad68to6F (ch : Byte)
  /-- `AHXCH.BAD_0x70-0x7F` (R166). -/
  | ahxchBad70to7F (ch : Byte)
  /-- `AHXCH.BAD_0x80-0xFF` (R166). -/
  | ahxchBad80toFF (ch : Byte)
  /-- `LZWCODE.LIT_0x000-0x0FF` (R185). -/
  | lzwcodeLit000to0FF (code : Code)
  /-- `LZWCODE.CLEAR_0x100-0x100` (R181). -/
  | lzwcodeClear100
  /-- `LZWCODE.EOD_0x101-0x101` (R182). -/
  | lzwcodeEod101
  /-- `LZWCODE.REF_0x102-0x103` (R185). -/
  | lzwcodeRef102to103 (code : Code)
  /-- `LZWCODE.REF_0x104-0x107` (R185). -/
  | lzwcodeRef104to107 (code : Code)
  /-- `LZWCODE.REF_0x108-0x10F` (R185). -/
  | lzwcodeRef108to10F (code : Code)
  /-- `LZWCODE.REF_0x110-0x11F` (R185). -/
  | lzwcodeRef110to11F (code : Code)
  /-- `LZWCODE.REF_0x120-0x13F` (R185). -/
  | lzwcodeRef120to13F (code : Code)
  /-- `LZWCODE.REF_0x140-0x17F` (R185). -/
  | lzwcodeRef140to17F (code : Code)
  /-- `LZWCODE.REF_0x180-0x1FF` (R185). -/
  | lzwcodeRef180to1FF (code : Code)
  /-- `LZWCODE.REF_0x200-0x3FF` (R185). -/
  | lzwcodeRef200to3FF (code : Code)
  /-- `LZWCODE.REF_0x400-0x7FF` (R185). -/
  | lzwcodeRef400to7FF (code : Code)
  /-- `LZWCODE.REF_0x800-0xFFF` (R185). -/
  | lzwcodeRef800toFFF (code : Code)
  /-- `PNGTAG.NONE_0x00-0x00` (R222). -/
  | pngtagNone00
  /-- `PNGTAG.SUB_0x01-0x01` (R223). -/
  | pngtagSub01
  /-- `PNGTAG.UP_0x02-0x02` (R224). -/
  | pngtagUp02
  /-- `PNGTAG.AVG_0x03-0x03` (R225). -/
  | pngtagAvg03
  /-- `PNGTAG.PAETH_0x04-0x04` (R226). -/
  | pngtagPaeth04
  /-- `PNGTAG.BAD_0x05-0x05` (R230). -/
  | pngtagBad05
  /-- `PNGTAG.BAD_0x06-0x07` (R230). -/
  | pngtagBad06to07 (tag : Byte)
  /-- `PNGTAG.BAD_0x08-0x0F` (R230). -/
  | pngtagBad08to0F (tag : Byte)
  /-- `PNGTAG.BAD_0x10-0x1F` (R230). -/
  | pngtagBad10to1F (tag : Byte)
  /-- `PNGTAG.BAD_0x20-0x3F` (R230). -/
  | pngtagBad20to3F (tag : Byte)
  /-- `PNGTAG.BAD_0x40-0x7F` (R230). -/
  | pngtagBad40to7F (tag : Byte)
  /-- `PNGTAG.BAD_0x80-0xFF` (R230). -/
  | pngtagBad80toFF (tag : Byte)
  deriving DecidableEq, Repr

end Sys2Proof
end

