-- ==== Sys2Proof/WellFormed.lean ====
section
/-! DEFINITION. Which instruction terms are instructions: a row that is a block of values holds exactly the
symbols its `match` and `mask` select (rule R107 of 30_encoding.md: "a value `v` belongs to the row with
`v & mask == match`"). -/

namespace Sys2Proof

/-- The symbol an instruction carries belongs to the block its row stands for (R107). -/
def Instr.wf : Instr → Bool
  | .nop => true
  | .startA85Dec => true
  | .startA85Enc => true
  | .startAhxDec => true
  | .startAhxEnc => true
  | .startLzwDec => true
  | .startLzwEnc => true
  | .startPredDec => true
  | .startPredEnc => true
  | .push => true
  | .finish => true
  | .abort => true
  | .a85chWs00 => true
  | .a85chWs09 => true
  | .a85chWs0A => true
  | .a85chWs0Cto0D ch => ch &&& 0xFE#8 == 0x0C#8
  | .a85chWs20 => true
  | .a85chDigit21 => true
  | .a85chDigit22to23 ch => ch &&& 0xFE#8 == 0x22#8
  | .a85chDigit24to27 ch => ch &&& 0xFC#8 == 0x24#8
  | .a85chDigit28to2F ch => ch &&& 0xF8#8 == 0x28#8
  | .a85chDigit30to3F ch => ch &&& 0xF0#8 == 0x30#8
  | .a85chDigit40to5F ch => ch &&& 0xE0#8 == 0x40#8
  | .a85chDigit60to6F ch => ch &&& 0xF0#8 == 0x60#8
  | .a85chDigit70to73 ch => ch &&& 0xFC#8 == 0x70#8
  | .a85chDigit74to75 ch => ch &&& 0xFE#8 == 0x74#8
  | .a85chZ7A => true
  | .a85chTilde7E => true
  | .a85chBad01 => true
  | .a85chBad02to03 ch => ch &&& 0xFE#8 == 0x02#8
  | .a85chBad04to07 ch => ch &&& 0xFC#8 == 0x04#8
  | .a85chBad08 => true
  | .a85chBad0B => true
  | .a85chBad0Eto0F ch => ch &&& 0xFE#8 == 0x0E#8
  | .a85chBad10to1F ch => ch &&& 0xF0#8 == 0x10#8
  | .a85chBad76to77 ch => ch &&& 0xFE#8 == 0x76#8
  | .a85chBad78to79 ch => ch &&& 0xFE#8 == 0x78#8
  | .a85chBad7B => true
  | .a85chBad7Cto7D ch => ch &&& 0xFE#8 == 0x7C#8
  | .a85chBad7F => true
  | .a85chBad80toFF ch => ch &&& 0x80#8 == 0x80#8
  | .a85chTWs00 => true
  | .a85chTWs09 => true
  | .a85chTWs0A => true
  | .a85chTWs0Cto0D ch => ch &&& 0xFE#8 == 0x0C#8
  | .a85chTWs20 => true
  | .a85chTGt3E => true
  | .a85chTBad01 => true
  | .a85chTBad02to03 ch => ch &&& 0xFE#8 == 0x02#8
  | .a85chTBad04to07 ch => ch &&& 0xFC#8 == 0x04#8
  | .a85chTBad08 => true
  | .a85chTBad0B => true
  | .a85chTBad0Eto0F ch => ch &&& 0xFE#8 == 0x0E#8
  | .a85chTBad10to1F ch => ch &&& 0xF0#8 == 0x10#8
  | .a85chTBad21 => true
  | .a85chTBad22to23 ch => ch &&& 0xFE#8 == 0x22#8
  | .a85chTBad24to27 ch => ch &&& 0xFC#8 == 0x24#8
  | .a85chTBad28to2F ch => ch &&& 0xF8#8 == 0x28#8
  | .a85chTBad30to37 ch => ch &&& 0xF8#8 == 0x30#8
  | .a85chTBad38to3B ch => ch &&& 0xFC#8 == 0x38#8
  | .a85chTBad3Cto3D ch => ch &&& 0xFE#8 == 0x3C#8
  | .a85chTBad3F => true
  | .a85chTBad40to7F ch => ch &&& 0xC0#8 == 0x40#8
  | .a85chTBad80toFF ch => ch &&& 0x80#8 == 0x80#8
  | .ahxchWs00 => true
  | .ahxchWs09 => true
  | .ahxchWs0A => true
  | .ahxchWs0Cto0D ch => ch &&& 0xFE#8 == 0x0C#8
  | .ahxchWs20 => true
  | .ahxchHex30to37 ch => ch &&& 0xF8#8 == 0x30#8
  | .ahxchHex38to39 ch => ch &&& 0xFE#8 == 0x38#8
  | .ahxchHex41 => true
  | .ahxchHex42to43 ch => ch &&& 0xFE#8 == 0x42#8
  | .ahxchHex44to45 ch => ch &&& 0xFE#8 == 0x44#8
  | .ahxchHex46 => true
  | .ahxchHex61 => true
  | .ahxchHex62to63 ch => ch &&& 0xFE#8 == 0x62#8
  | .ahxchHex64to65 ch => ch &&& 0xFE#8 == 0x64#8
  | .ahxchHex66 => true
  | .ahxchGt3E => true
  | .ahxchBad01 => true
  | .ahxchBad02to03 ch => ch &&& 0xFE#8 == 0x02#8
  | .ahxchBad04to07 ch => ch &&& 0xFC#8 == 0x04#8
  | .ahxchBad08 => true
  | .ahxchBad0B => true
  | .ahxchBad0Eto0F ch => ch &&& 0xFE#8 == 0x0E#8
  | .ahxchBad10to1F ch => ch &&& 0xF0#8 == 0x10#8
  | .ahxchBad21 => true
  | .ahxchBad22to23 ch => ch &&& 0xFE#8 == 0x22#8
  | .ahxchBad24to27 ch => ch &&& 0xFC#8 == 0x24#8
  | .ahxchBad28to2F ch => ch &&& 0xF8#8 == 0x28#8
  | .ahxchBad3Ato3B ch => ch &&& 0xFE#8 == 0x3A#8
  | .ahxchBad3Cto3D ch => ch &&& 0xFE#8 == 0x3C#8
  | .ahxchBad3F => true
  | .ahxchBad40 => true
  | .ahxchBad47 => true
  | .ahxchBad48to4F ch => ch &&& 0xF8#8 == 0x48#8
  | .ahxchBad50to5F ch => ch &&& 0xF0#8 == 0x50#8
  | .ahxchBad60 => true
  | .ahxchBad67 => true
  | .ahxchBad68to6F ch => ch &&& 0xF8#8 == 0x68#8
  | .ahxchBad70to7F ch => ch &&& 0xF0#8 == 0x70#8
  | .ahxchBad80toFF ch => ch &&& 0x80#8 == 0x80#8
  | .lzwcodeLit000to0FF code => code &&& 0xF00#12 == 0x000#12
  | .lzwcodeClear100 => true
  | .lzwcodeEod101 => true
  | .lzwcodeRef102to103 code => code &&& 0xFFE#12 == 0x102#12
  | .lzwcodeRef104to107 code => code &&& 0xFFC#12 == 0x104#12
  | .lzwcodeRef108to10F code => code &&& 0xFF8#12 == 0x108#12
  | .lzwcodeRef110to11F code => code &&& 0xFF0#12 == 0x110#12
  | .lzwcodeRef120to13F code => code &&& 0xFE0#12 == 0x120#12
  | .lzwcodeRef140to17F code => code &&& 0xFC0#12 == 0x140#12
  | .lzwcodeRef180to1FF code => code &&& 0xF80#12 == 0x180#12
  | .lzwcodeRef200to3FF code => code &&& 0xE00#12 == 0x200#12
  | .lzwcodeRef400to7FF code => code &&& 0xC00#12 == 0x400#12
  | .lzwcodeRef800toFFF code => code &&& 0x800#12 == 0x800#12
  | .pngtagNone00 => true
  | .pngtagSub01 => true
  | .pngtagUp02 => true
  | .pngtagAvg03 => true
  | .pngtagPaeth04 => true
  | .pngtagBad05 => true
  | .pngtagBad06to07 tag => tag &&& 0xFE#8 == 0x06#8
  | .pngtagBad08to0F tag => tag &&& 0xF8#8 == 0x08#8
  | .pngtagBad10to1F tag => tag &&& 0xF0#8 == 0x10#8
  | .pngtagBad20to3F tag => tag &&& 0xE0#8 == 0x20#8
  | .pngtagBad40to7F tag => tag &&& 0xC0#8 == 0x40#8
  | .pngtagBad80toFF tag => tag &&& 0x80#8 == 0x80#8

end Sys2Proof
end

