-- ==== Sys2Proof/Decode.lean ====
section
/-! DEFINITION. The decoder, total on every bit pattern of the six formats, and after it the encoder, both
written from the encodings of 30_encoding.md (rules R91 to R107) and the table's `match` and `mask`. -/

namespace Sys2Proof

/-- START with the fields `UNIT` and `DIR` of a word whose other bits are those of START (R91, R92). -/
def decodeStart (unit : BitVec 3) (dir : Bool) : Option Instr :=
  if unit = 0#3 then some (if dir then .startA85Enc else .startA85Dec)
  else if unit = 1#3 then some (if dir then .startAhxEnc else .startAhxDec)
  else if unit = 2#3 then some (if dir then .startLzwEnc else .startLzwDec)
  else if unit = 3#3 then some (if dir then .startPredEnc else .startPredDec)
  else none

/-- The command word (R91 to R93): `OPC` is `w[3:0]`, `UNIT` is `w[6:4]`, `DIR` is `w[7]`, and bits 31:8
must be 0. "The decoder is total on 32-bit words, twelve words are commands and the rest are refused." -/
def decodeCmd (w : Word) : Option Instr :=
  let opc := w.extractLsb' 0 4
  let unit := w.extractLsb' 4 3
  let dir := w.getLsbD 7
  if w.extractLsb' 8 24 ≠ 0#24 then none
  else if opc = 1#4 then decodeStart unit dir
  else if unit ≠ 0#3 ∨ dir = true then none
  else if opc = 0#4 then some .nop
  else if opc = 2#4 then some .push
  else if opc = 3#4 then some .finish
  else if opc = 4#4 then some .abort
  else none

/-- A byte of base-85 text with `tilde = 0` (R96). The blocks are disjoint and cover every value (R107). -/
def decodeA85ch (ch : Byte) : Option Instr :=
  if ch = 0x00#8 then some .a85chWs00
  else if ch = 0x09#8 then some .a85chWs09
  else if ch = 0x0A#8 then some .a85chWs0A
  else if ch &&& 0xFE#8 = 0x0C#8 then some (.a85chWs0Cto0D ch)
  else if ch = 0x20#8 then some .a85chWs20
  else if ch = 0x21#8 then some .a85chDigit21
  else if ch &&& 0xFE#8 = 0x22#8 then some (.a85chDigit22to23 ch)
  else if ch &&& 0xFC#8 = 0x24#8 then some (.a85chDigit24to27 ch)
  else if ch &&& 0xF8#8 = 0x28#8 then some (.a85chDigit28to2F ch)
  else if ch &&& 0xF0#8 = 0x30#8 then some (.a85chDigit30to3F ch)
  else if ch &&& 0xE0#8 = 0x40#8 then some (.a85chDigit40to5F ch)
  else if ch &&& 0xF0#8 = 0x60#8 then some (.a85chDigit60to6F ch)
  else if ch &&& 0xFC#8 = 0x70#8 then some (.a85chDigit70to73 ch)
  else if ch &&& 0xFE#8 = 0x74#8 then some (.a85chDigit74to75 ch)
  else if ch = 0x7A#8 then some .a85chZ7A
  else if ch = 0x7E#8 then some .a85chTilde7E
  else if ch = 0x01#8 then some .a85chBad01
  else if ch &&& 0xFE#8 = 0x02#8 then some (.a85chBad02to03 ch)
  else if ch &&& 0xFC#8 = 0x04#8 then some (.a85chBad04to07 ch)
  else if ch = 0x08#8 then some .a85chBad08
  else if ch = 0x0B#8 then some .a85chBad0B
  else if ch &&& 0xFE#8 = 0x0E#8 then some (.a85chBad0Eto0F ch)
  else if ch &&& 0xF0#8 = 0x10#8 then some (.a85chBad10to1F ch)
  else if ch &&& 0xFE#8 = 0x76#8 then some (.a85chBad76to77 ch)
  else if ch &&& 0xFE#8 = 0x78#8 then some (.a85chBad78to79 ch)
  else if ch = 0x7B#8 then some .a85chBad7B
  else if ch &&& 0xFE#8 = 0x7C#8 then some (.a85chBad7Cto7D ch)
  else if ch = 0x7F#8 then some .a85chBad7F
  else if ch &&& 0x80#8 = 0x80#8 then some (.a85chBad80toFF ch)
  else none

/-- A byte of base-85 text with `tilde = 1` (R96). The blocks are disjoint and cover every value (R107). -/
def decodeA85chT (ch : Byte) : Option Instr :=
  if ch = 0x00#8 then some .a85chTWs00
  else if ch = 0x09#8 then some .a85chTWs09
  else if ch = 0x0A#8 then some .a85chTWs0A
  else if ch &&& 0xFE#8 = 0x0C#8 then some (.a85chTWs0Cto0D ch)
  else if ch = 0x20#8 then some .a85chTWs20
  else if ch = 0x3E#8 then some .a85chTGt3E
  else if ch = 0x01#8 then some .a85chTBad01
  else if ch &&& 0xFE#8 = 0x02#8 then some (.a85chTBad02to03 ch)
  else if ch &&& 0xFC#8 = 0x04#8 then some (.a85chTBad04to07 ch)
  else if ch = 0x08#8 then some .a85chTBad08
  else if ch = 0x0B#8 then some .a85chTBad0B
  else if ch &&& 0xFE#8 = 0x0E#8 then some (.a85chTBad0Eto0F ch)
  else if ch &&& 0xF0#8 = 0x10#8 then some (.a85chTBad10to1F ch)
  else if ch = 0x21#8 then some .a85chTBad21
  else if ch &&& 0xFE#8 = 0x22#8 then some (.a85chTBad22to23 ch)
  else if ch &&& 0xFC#8 = 0x24#8 then some (.a85chTBad24to27 ch)
  else if ch &&& 0xF8#8 = 0x28#8 then some (.a85chTBad28to2F ch)
  else if ch &&& 0xF8#8 = 0x30#8 then some (.a85chTBad30to37 ch)
  else if ch &&& 0xFC#8 = 0x38#8 then some (.a85chTBad38to3B ch)
  else if ch &&& 0xFE#8 = 0x3C#8 then some (.a85chTBad3Cto3D ch)
  else if ch = 0x3F#8 then some .a85chTBad3F
  else if ch &&& 0xC0#8 = 0x40#8 then some (.a85chTBad40to7F ch)
  else if ch &&& 0x80#8 = 0x80#8 then some (.a85chTBad80toFF ch)
  else none

/-- A byte of base-16 text (R98). The blocks are disjoint and cover every value (R107). -/
def decodeAhxch (ch : Byte) : Option Instr :=
  if ch = 0x00#8 then some .ahxchWs00
  else if ch = 0x09#8 then some .ahxchWs09
  else if ch = 0x0A#8 then some .ahxchWs0A
  else if ch &&& 0xFE#8 = 0x0C#8 then some (.ahxchWs0Cto0D ch)
  else if ch = 0x20#8 then some .ahxchWs20
  else if ch &&& 0xF8#8 = 0x30#8 then some (.ahxchHex30to37 ch)
  else if ch &&& 0xFE#8 = 0x38#8 then some (.ahxchHex38to39 ch)
  else if ch = 0x41#8 then some .ahxchHex41
  else if ch &&& 0xFE#8 = 0x42#8 then some (.ahxchHex42to43 ch)
  else if ch &&& 0xFE#8 = 0x44#8 then some (.ahxchHex44to45 ch)
  else if ch = 0x46#8 then some .ahxchHex46
  else if ch = 0x61#8 then some .ahxchHex61
  else if ch &&& 0xFE#8 = 0x62#8 then some (.ahxchHex62to63 ch)
  else if ch &&& 0xFE#8 = 0x64#8 then some (.ahxchHex64to65 ch)
  else if ch = 0x66#8 then some .ahxchHex66
  else if ch = 0x3E#8 then some .ahxchGt3E
  else if ch = 0x01#8 then some .ahxchBad01
  else if ch &&& 0xFE#8 = 0x02#8 then some (.ahxchBad02to03 ch)
  else if ch &&& 0xFC#8 = 0x04#8 then some (.ahxchBad04to07 ch)
  else if ch = 0x08#8 then some .ahxchBad08
  else if ch = 0x0B#8 then some .ahxchBad0B
  else if ch &&& 0xFE#8 = 0x0E#8 then some (.ahxchBad0Eto0F ch)
  else if ch &&& 0xF0#8 = 0x10#8 then some (.ahxchBad10to1F ch)
  else if ch = 0x21#8 then some .ahxchBad21
  else if ch &&& 0xFE#8 = 0x22#8 then some (.ahxchBad22to23 ch)
  else if ch &&& 0xFC#8 = 0x24#8 then some (.ahxchBad24to27 ch)
  else if ch &&& 0xF8#8 = 0x28#8 then some (.ahxchBad28to2F ch)
  else if ch &&& 0xFE#8 = 0x3A#8 then some (.ahxchBad3Ato3B ch)
  else if ch &&& 0xFE#8 = 0x3C#8 then some (.ahxchBad3Cto3D ch)
  else if ch = 0x3F#8 then some .ahxchBad3F
  else if ch = 0x40#8 then some .ahxchBad40
  else if ch = 0x47#8 then some .ahxchBad47
  else if ch &&& 0xF8#8 = 0x48#8 then some (.ahxchBad48to4F ch)
  else if ch &&& 0xF0#8 = 0x50#8 then some (.ahxchBad50to5F ch)
  else if ch = 0x60#8 then some .ahxchBad60
  else if ch = 0x67#8 then some .ahxchBad67
  else if ch &&& 0xF8#8 = 0x68#8 then some (.ahxchBad68to6F ch)
  else if ch &&& 0xF0#8 = 0x70#8 then some (.ahxchBad70to7F ch)
  else if ch &&& 0x80#8 = 0x80#8 then some (.ahxchBad80toFF ch)
  else none

/-- An LZW code, zero-extended to 12 bits (R99). The blocks are disjoint and cover every value (R107). -/
def decodeLzwcode (code : Code) : Option Instr :=
  if code &&& 0xF00#12 = 0x000#12 then some (.lzwcodeLit000to0FF code)
  else if code = 0x100#12 then some .lzwcodeClear100
  else if code = 0x101#12 then some .lzwcodeEod101
  else if code &&& 0xFFE#12 = 0x102#12 then some (.lzwcodeRef102to103 code)
  else if code &&& 0xFFC#12 = 0x104#12 then some (.lzwcodeRef104to107 code)
  else if code &&& 0xFF8#12 = 0x108#12 then some (.lzwcodeRef108to10F code)
  else if code &&& 0xFF0#12 = 0x110#12 then some (.lzwcodeRef110to11F code)
  else if code &&& 0xFE0#12 = 0x120#12 then some (.lzwcodeRef120to13F code)
  else if code &&& 0xFC0#12 = 0x140#12 then some (.lzwcodeRef140to17F code)
  else if code &&& 0xF80#12 = 0x180#12 then some (.lzwcodeRef180to1FF code)
  else if code &&& 0xE00#12 = 0x200#12 then some (.lzwcodeRef200to3FF code)
  else if code &&& 0xC00#12 = 0x400#12 then some (.lzwcodeRef400to7FF code)
  else if code &&& 0x800#12 = 0x800#12 then some (.lzwcodeRef800toFFF code)
  else none

/-- The tag byte of a PNG-predicted row (R100). The blocks are disjoint and cover every value (R107). -/
def decodePngtag (tag : Byte) : Option Instr :=
  if tag = 0x00#8 then some .pngtagNone00
  else if tag = 0x01#8 then some .pngtagSub01
  else if tag = 0x02#8 then some .pngtagUp02
  else if tag = 0x03#8 then some .pngtagAvg03
  else if tag = 0x04#8 then some .pngtagPaeth04
  else if tag = 0x05#8 then some .pngtagBad05
  else if tag &&& 0xFE#8 = 0x06#8 then some (.pngtagBad06to07 tag)
  else if tag &&& 0xF8#8 = 0x08#8 then some (.pngtagBad08to0F tag)
  else if tag &&& 0xF0#8 = 0x10#8 then some (.pngtagBad10to1F tag)
  else if tag &&& 0xE0#8 = 0x20#8 then some (.pngtagBad20to3F tag)
  else if tag &&& 0xC0#8 = 0x40#8 then some (.pngtagBad40to7F tag)
  else if tag &&& 0x80#8 = 0x80#8 then some (.pngtagBad80toFF tag)
  else none

/-- The decoder on an encoded instruction of any format. -/
def decode : Enc → Option Instr
  | .cmd w => decodeCmd w
  | .a85ch ch => decodeA85ch ch
  | .a85chT ch => decodeA85chT ch
  | .ahxch ch => decodeAhxch ch
  | .lzwcode code => decodeLzwcode code
  | .pngtag tag => decodePngtag tag

/-- The encoder: the format and the bits of a well-formed instruction (R92; for the classes, R107). -/
def encode : Instr → Enc
  | .nop => .cmd 0x00000000#32
  | .startA85Dec => .cmd 0x00000001#32
  | .startA85Enc => .cmd 0x00000081#32
  | .startAhxDec => .cmd 0x00000011#32
  | .startAhxEnc => .cmd 0x00000091#32
  | .startLzwDec => .cmd 0x00000021#32
  | .startLzwEnc => .cmd 0x000000A1#32
  | .startPredDec => .cmd 0x00000031#32
  | .startPredEnc => .cmd 0x000000B1#32
  | .push => .cmd 0x00000002#32
  | .finish => .cmd 0x00000003#32
  | .abort => .cmd 0x00000004#32
  | .a85chWs00 => .a85ch 0x00#8
  | .a85chWs09 => .a85ch 0x09#8
  | .a85chWs0A => .a85ch 0x0A#8
  | .a85chWs0Cto0D ch => .a85ch ch
  | .a85chWs20 => .a85ch 0x20#8
  | .a85chDigit21 => .a85ch 0x21#8
  | .a85chDigit22to23 ch => .a85ch ch
  | .a85chDigit24to27 ch => .a85ch ch
  | .a85chDigit28to2F ch => .a85ch ch
  | .a85chDigit30to3F ch => .a85ch ch
  | .a85chDigit40to5F ch => .a85ch ch
  | .a85chDigit60to6F ch => .a85ch ch
  | .a85chDigit70to73 ch => .a85ch ch
  | .a85chDigit74to75 ch => .a85ch ch
  | .a85chZ7A => .a85ch 0x7A#8
  | .a85chTilde7E => .a85ch 0x7E#8
  | .a85chBad01 => .a85ch 0x01#8
  | .a85chBad02to03 ch => .a85ch ch
  | .a85chBad04to07 ch => .a85ch ch
  | .a85chBad08 => .a85ch 0x08#8
  | .a85chBad0B => .a85ch 0x0B#8
  | .a85chBad0Eto0F ch => .a85ch ch
  | .a85chBad10to1F ch => .a85ch ch
  | .a85chBad76to77 ch => .a85ch ch
  | .a85chBad78to79 ch => .a85ch ch
  | .a85chBad7B => .a85ch 0x7B#8
  | .a85chBad7Cto7D ch => .a85ch ch
  | .a85chBad7F => .a85ch 0x7F#8
  | .a85chBad80toFF ch => .a85ch ch
  | .a85chTWs00 => .a85chT 0x00#8
  | .a85chTWs09 => .a85chT 0x09#8
  | .a85chTWs0A => .a85chT 0x0A#8
  | .a85chTWs0Cto0D ch => .a85chT ch
  | .a85chTWs20 => .a85chT 0x20#8
  | .a85chTGt3E => .a85chT 0x3E#8
  | .a85chTBad01 => .a85chT 0x01#8
  | .a85chTBad02to03 ch => .a85chT ch
  | .a85chTBad04to07 ch => .a85chT ch
  | .a85chTBad08 => .a85chT 0x08#8
  | .a85chTBad0B => .a85chT 0x0B#8
  | .a85chTBad0Eto0F ch => .a85chT ch
  | .a85chTBad10to1F ch => .a85chT ch
  | .a85chTBad21 => .a85chT 0x21#8
  | .a85chTBad22to23 ch => .a85chT ch
  | .a85chTBad24to27 ch => .a85chT ch
  | .a85chTBad28to2F ch => .a85chT ch
  | .a85chTBad30to37 ch => .a85chT ch
  | .a85chTBad38to3B ch => .a85chT ch
  | .a85chTBad3Cto3D ch => .a85chT ch
  | .a85chTBad3F => .a85chT 0x3F#8
  | .a85chTBad40to7F ch => .a85chT ch
  | .a85chTBad80toFF ch => .a85chT ch
  | .ahxchWs00 => .ahxch 0x00#8
  | .ahxchWs09 => .ahxch 0x09#8
  | .ahxchWs0A => .ahxch 0x0A#8
  | .ahxchWs0Cto0D ch => .ahxch ch
  | .ahxchWs20 => .ahxch 0x20#8
  | .ahxchHex30to37 ch => .ahxch ch
  | .ahxchHex38to39 ch => .ahxch ch
  | .ahxchHex41 => .ahxch 0x41#8
  | .ahxchHex42to43 ch => .ahxch ch
  | .ahxchHex44to45 ch => .ahxch ch
  | .ahxchHex46 => .ahxch 0x46#8
  | .ahxchHex61 => .ahxch 0x61#8
  | .ahxchHex62to63 ch => .ahxch ch
  | .ahxchHex64to65 ch => .ahxch ch
  | .ahxchHex66 => .ahxch 0x66#8
  | .ahxchGt3E => .ahxch 0x3E#8
  | .ahxchBad01 => .ahxch 0x01#8
  | .ahxchBad02to03 ch => .ahxch ch
  | .ahxchBad04to07 ch => .ahxch ch
  | .ahxchBad08 => .ahxch 0x08#8
  | .ahxchBad0B => .ahxch 0x0B#8
  | .ahxchBad0Eto0F ch => .ahxch ch
  | .ahxchBad10to1F ch => .ahxch ch
  | .ahxchBad21 => .ahxch 0x21#8
  | .ahxchBad22to23 ch => .ahxch ch
  | .ahxchBad24to27 ch => .ahxch ch
  | .ahxchBad28to2F ch => .ahxch ch
  | .ahxchBad3Ato3B ch => .ahxch ch
  | .ahxchBad3Cto3D ch => .ahxch ch
  | .ahxchBad3F => .ahxch 0x3F#8
  | .ahxchBad40 => .ahxch 0x40#8
  | .ahxchBad47 => .ahxch 0x47#8
  | .ahxchBad48to4F ch => .ahxch ch
  | .ahxchBad50to5F ch => .ahxch ch
  | .ahxchBad60 => .ahxch 0x60#8
  | .ahxchBad67 => .ahxch 0x67#8
  | .ahxchBad68to6F ch => .ahxch ch
  | .ahxchBad70to7F ch => .ahxch ch
  | .ahxchBad80toFF ch => .ahxch ch
  | .lzwcodeLit000to0FF code => .lzwcode code
  | .lzwcodeClear100 => .lzwcode 0x100#12
  | .lzwcodeEod101 => .lzwcode 0x101#12
  | .lzwcodeRef102to103 code => .lzwcode code
  | .lzwcodeRef104to107 code => .lzwcode code
  | .lzwcodeRef108to10F code => .lzwcode code
  | .lzwcodeRef110to11F code => .lzwcode code
  | .lzwcodeRef120to13F code => .lzwcode code
  | .lzwcodeRef140to17F code => .lzwcode code
  | .lzwcodeRef180to1FF code => .lzwcode code
  | .lzwcodeRef200to3FF code => .lzwcode code
  | .lzwcodeRef400to7FF code => .lzwcode code
  | .lzwcodeRef800toFFF code => .lzwcode code
  | .pngtagNone00 => .pngtag 0x00#8
  | .pngtagSub01 => .pngtag 0x01#8
  | .pngtagUp02 => .pngtag 0x02#8
  | .pngtagAvg03 => .pngtag 0x03#8
  | .pngtagPaeth04 => .pngtag 0x04#8
  | .pngtagBad05 => .pngtag 0x05#8
  | .pngtagBad06to07 tag => .pngtag tag
  | .pngtagBad08to0F tag => .pngtag tag
  | .pngtagBad10to1F tag => .pngtag tag
  | .pngtagBad20to3F tag => .pngtag tag
  | .pngtagBad40to7F tag => .pngtag tag
  | .pngtagBad80toFF tag => .pngtag tag

/-- The format in which a bare table word is read. 32 bits are a command word. 12 bits (two bytes, the
top four 0) are an LZW code. 8 bits alone do not say which of the four byte formats they stand in, since
the running decoder says it (R96 to R100); read with the descriptor of reset (`unit` 0, `dir` 0, so A85
decode, no `~` seen) they are an `A85CH` byte. DESIGN CHOICE, notes/assumptions/8.md. -/
def tableEnc (nbits w : Nat) : Option Enc :=
  if nbits = 32 then some (.cmd (BitVec.ofNat 32 w))
  else if nbits = 16 ∨ nbits = 12 then
    if w % 2 ^ nbits < 4096 then some (.lzwcode (BitVec.ofNat 12 w)) else none
  else if nbits = 8 then some (.a85ch (BitVec.ofNat 8 w))
  else none

/-- The instruction the decoder reads from a word of spec/opcode_table.json. -/
def decodeTableWord (nbits w : Nat) : Option Instr :=
  match tableEnc nbits w with
  | some e => decode e
  | none => none

end Sys2Proof
end

