-- ==== Sys2Proof/Config.lean ====
section
/-! DEFINITION. The two parameters the spec leaves open (rule R5 of 00_scope.md, decision D31):
"`OPEN`: a natural number or \"no limit\"". The machine carries them in `State.cfg`, which no step
writes, so that a statement over every state is a statement over every choice of them
(notes/assumptions/2.md). -/

namespace Sys2Proof

/-- The implementation's two limits. `none` is the spec's "no limit" (R5). -/
structure Config where
  /-- `CHUNK_MAX`: the largest PUSH payload, in bytes, the block accepts (R5, R132). -/
  chunkMax : Option Nat
  /-- `ROW_MAX`: the capacity in bytes of each predictor row buffer (R5, R33 check 3). -/
  rowMax : Option Nat
  deriving DecidableEq, Repr

/-- Both limits absent: "with both set to \"no limit\" the model matches the document exactly" (N16). -/
def Config.unlimited : Config := { chunkMax := none, rowMax := none }

end Sys2Proof
end

