-- ==== Sys2Proof/Machine/State.lean ====
section
/-! DEFINITION. The state of SFCB (10_state.md): the control and status registers, the sequencing state, the
eight latches, the codec state of the running invocation, and the model's own port fields. Also the
reasons a step can stop, and the data the byte rules answer with. -/

namespace Sys2Proof.Machine

/-- The block's whole sequencing state (R31). -/
inductive Phase where
  /-- 0: no invocation exists. -/
  | idle
  /-- 1: an invocation is running; PUSH and FINISH are accepted. -/
  | active
  /-- 2: the invocation's source was exhausted by FINISH. -/
  | done
  /-- 3: the invocation faulted. -/
  | error
  deriving DecidableEq, Repr

/-- The four functional units (R1), in the numbering of the field `UNIT` (R23, R91). -/
inductive CodecUnit where
  | a85
  | ahx
  | lzw
  | pred
  deriving DecidableEq, Repr

/-- The direction of an invocation: 0 decode, 1 encode (R23, R91). -/
inductive Direction where
  | dec
  | enc
  deriving DecidableEq, Repr

/-- The three kinds of error and "no error" (R260). -/
inductive ErrKind where
  | noError
  | formatError
  | dataTruncated
  | filterError
  deriving DecidableEq, Repr

/-- The cause table (R261), whole. `cmdIllegal` is no fault: it stands only in the word of a rejection (R263). -/
inductive Cause where
  | cmdIllegal
  | cfgInvalid
  | a85BadChar
  | a85ZInGroup
  | a85BadTerm
  | a85Overflow
  | a85NoTerm
  | ahxBadChar
  | ahxNoTerm
  | ahxOddNibble
  | lzwBadCode
  | lzwTableFull
  | lzwNoEod
  | lzwTrunc
  | pngBadTag
  | predShortRow
  deriving DecidableEq, Repr

/-- The five PNG row filters (R100). -/
inductive PngFilter where
  | none
  | sub
  | up
  | average
  | paeth
  deriving DecidableEq, Repr

/-- The eight latches START writes and the invocation reads (R33). -/
structure Latches where
  pred : Word
  colors : Word
  bpc : Word
  columns : Word
  strict : Bool
  hexup : Bool
  leadclr : Bool
  opttag : BitVec 3
  deriving DecidableEq, Repr

/-- A85 decode state (R37): the digits of an incomplete group, already reduced by 33, and whether a `~`
waits for its `>`. -/
structure A85Dec where
  dig : List Nat
  tilde : Bool
  deriving DecidableEq, Repr

/-- AHX decode state (R39): `waiting` is the spec's `have`. -/
structure AhxDec where
  waiting : Bool
  hi : BitVec 4
  deriving DecidableEq, Repr

/-- LZW decode state (R40, R41). `tab` holds the recorded strings, code 258 first; the single-byte strings
are permanent and not stored. `last = none` is the spec's NONE. -/
structure LzwDec where
  tab : List (List Byte)
  tsize : Nat
  width : Nat
  acc : Nat
  nbits : Nat
  last : Option Code
  deriving DecidableEq, Repr

/-- LZW encode state (R40, R42). -/
structure LzwEnc where
  tab : List (List Byte)
  tsize : Nat
  width : Nat
  cand : List Byte
  acc : Nat
  nbits : Nat
  lead : Bool
  deriving DecidableEq, Repr

/-- The codec state of the selected unit; "the other units' elements are absent" (R35). AHX encode has
none (R38), and what PRED has stands in `Rows`, since a chained LZW invocation has it too. -/
inductive Codec where
  | a85Dec (d : A85Dec)
  /-- `ebuf` (R36). -/
  | a85Enc (ebuf : List Byte)
  | ahxDec (d : AhxDec)
  | ahxEnc
  | lzwDec (d : LzwDec)
  | lzwEnc (e : LzwEnc)
  | pred
  deriving DecidableEq, Repr

/-- The predictor's buffers `CUR` and `PREV` (R43). -/
structure Rows where
  cur : List Byte
  prev : List Byte
  deriving DecidableEq, Repr

/-- What the host does next at the block's ports (R8, R21, R22, R290); notes/assumptions/1.md. -/
inductive PortOp where
  /-- A 32-bit register write at a byte offset; a write at 0x00 issues the command `value`, with the payload
  the host presents on the input stream port (R22, R61). -/
  | write (offset : Nat) (value : Word) (payload : List Byte)
  /-- A 32-bit register read at a byte offset. -/
  | read (offset : Nat)
  /-- The reset input is asserted and released (R290, R291). -/
  | reset
  deriving DecidableEq, Repr

/-- The state of the block, and the model's own fields `cfg`, `inp`, `out`, `rdata`, `port`. -/
structure State where
  /-- `CHUNK_MAX` and `ROW_MAX` (R5): constant, no step writes it (notes/assumptions/2.md). -/
  cfg : Config
  /-- `PREDICTOR`, offset 0x10 (R26). -/
  predictor : Word
  /-- `COLORS`, offset 0x14 (R27). -/
  colors : Word
  /-- `BPC`, offset 0x18 (R28). -/
  bpc : Word
  /-- `COLUMNS`, offset 0x1C (R29). -/
  columns : Word
  /-- `CTRL`, offset 0x20 (R30). -/
  ctrl : Word
  /-- R31. -/
  phase : Phase
  /-- R32. -/
  unit : CodecUnit
  /-- R32. -/
  dir : Direction
  /-- R32: LZW with the predictor stage attached (R250). -/
  chain : Bool
  /-- R32: the decoder has consumed its terminator. -/
  fin : Bool
  /-- R32: no error except in phase ERROR. -/
  errkind : ErrKind
  /-- `ERRINFO`, offset 0x08 (R24). -/
  errinfo : Word
  /-- `RSP`, offset 0x0C (R25). -/
  rsp : Word
  /-- R33. -/
  latch : Latches
  /-- The selected unit's codec state, absent outside phase ACTIVE (R35). -/
  codec : Option Codec
  /-- `CUR` and `PREV`, present when the predictor is attached and `L_PRED` is not 1 (R43). -/
  rows : Option Rows
  /-- The payload presented on the input stream port (R61), until a PUSH takes it. -/
  inp : List Byte
  /-- The output payload: what the transaction in progress has emitted (R7), then what the host takes (R62). -/
  out : List Byte
  /-- What the last register read returned (R21). -/
  rdata : Word
  /-- The host's pending port operations, oldest first (notes/assumptions/1.md). -/
  port : List PortOp
  deriving DecidableEq, Repr

/-- Reasons for which the machine stops. The block's own faults are no such stop: each is a next state in
phase ERROR (R268). -/
inductive Fault where
  /-- Raised by PUSH and FINISH in phase ACTIVE when no codec state is present. Safe: the spec has no such
  state (R35, R46) and no run reaches one (notes/assumptions/11.md). -/
  | codecAbsent
  deriving DecidableEq, Repr

/-- Reasons for which an instruction or an access has no meaning. -/
inductive Refusal where
  /-- Raised by an arm of `exec` for an instruction without a meaning. Safe. No arm uses it. -/
  | notModelled (mnemonic : String)
  /-- Raised by a symbol class of A85CH, A85CH_T, AHXCH, LZWCODE or PNGTAG when the decoder that reads
  that format is not at work on it. Safe: no such symbol is fetched there (notes/assumptions/6.md). -/
  | outOfContext
  /-- Raised by a register access at an offset that is no multiple of 4. Safe: such accesses "do not exist
  on the port" (93_implementation_defined.md 1.3, R21; notes/assumptions/10.md). -/
  | unalignedAccess
  deriving DecidableEq, Repr

/-- What a byte rule, a code rule or a row rule answers: it raises a fault with a symbol (R7), or it
emits bytes and leaves a new codec state, having consumed the terminator or not. -/
inductive Answer (σ : Type) where
  | raise (cause : Cause) (sym : Code)
  | emit (st : σ) (bytes : List Byte) (term : Bool)
  deriving DecidableEq, Repr

/-- The latches after reset. R47 leaves them unspecified and no rule reads them before a START has
written them. DESIGN CHOICE (zeros), notes/assumptions/3.md. -/
def Latches.unspecified : Latches :=
  { pred := 0#32, colors := 0#32, bpc := 0#32, columns := 0#32,
    strict := false, hexup := false, leadclr := false, opttag := 0#3 }

/-- The machine right after reset (R47, R290), with no limit on payloads and rows
(DESIGN CHOICE, notes/assumptions/2.md) and nothing at its ports (DESIGN CHOICE, notes/assumptions/5.md). -/
def State.reset : State :=
  { cfg := Config.unlimited
    predictor := 1#32, colors := 1#32, bpc := 8#32, columns := 1#32, ctrl := 0x44#32
    phase := .idle, unit := .a85, dir := .dec, chain := false, fin := false, errkind := .noError
    errinfo := 0#32, rsp := 0#32
    latch := Latches.unspecified
    codec := none, rows := none
    inp := [], out := [], rdata := 0#32, port := [] }

end Sys2Proof.Machine
end

