-- ==== Sys2Proof/Machine/Flags.lean ====
section
/-! DEFINITION. The block's flags and status words: the fields of `CTRL` (rule R30 of 10_state.md), the view
`STATUS` (R23), and the words `ERRINFO` (R24) and `RSP` (R94) with the cause table (R261). The block has
no condition codes: `fin` and `errkind` are its only flags (R32). -/

namespace Sys2Proof.Machine

/-- `PHASE` (R23). -/
def Phase.code : Phase → BitVec 2
  | .idle => 0#2
  | .active => 1#2
  | .done => 2#2
  | .error => 3#2

/-- `UNIT` (R23). -/
def CodecUnit.code : CodecUnit → BitVec 3
  | .a85 => 0#3
  | .ahx => 1#3
  | .lzw => 2#3
  | .pred => 3#3

/-- `DIR` (R23). -/
def Direction.code : Direction → BitVec 1
  | .dec => 0#1
  | .enc => 1#1

/-- `ERRKIND` and `KIND` (R23, R94, R260). -/
def ErrKind.code : ErrKind → BitVec 2
  | .noError => 0#2
  | .formatError => 1#2
  | .dataTruncated => 2#2
  | .filterError => 3#2

/-- The cause codes (R261). -/
def Cause.code : Cause → BitVec 8
  | .cmdIllegal => 0x01#8
  | .cfgInvalid => 0x02#8
  | .a85BadChar => 0x10#8
  | .a85ZInGroup => 0x11#8
  | .a85BadTerm => 0x12#8
  | .a85Overflow => 0x13#8
  | .a85NoTerm => 0x14#8
  | .ahxBadChar => 0x20#8
  | .ahxNoTerm => 0x21#8
  | .ahxOddNibble => 0x22#8
  | .lzwBadCode => 0x30#8
  | .lzwTableFull => 0x31#8
  | .lzwNoEod => 0x32#8
  | .lzwTrunc => 0x33#8
  | .pngBadTag => 0x40#8
  | .predShortRow => 0x41#8

/-- The kind of each cause (R261). -/
def Cause.kind : Cause → ErrKind
  | .cmdIllegal => .filterError
  | .cfgInvalid => .filterError
  | .a85BadChar => .formatError
  | .a85ZInGroup => .formatError
  | .a85BadTerm => .formatError
  | .a85Overflow => .formatError
  | .a85NoTerm => .formatError
  | .ahxBadChar => .formatError
  | .ahxNoTerm => .formatError
  | .ahxOddNibble => .dataTruncated
  | .lzwBadCode => .formatError
  | .lzwTableFull => .formatError
  | .lzwNoEod => .formatError
  | .lzwTrunc => .dataTruncated
  | .pngBadTag => .formatError
  | .predShortRow => .dataTruncated

/-- The layout of a response word (R94): bits 31:28 are 0, then `SYM`, `CAUSE`, four 0 bits, `KIND`, `RC`. -/
def responseWord (rc : BitVec 2) (kind : ErrKind) (cause : BitVec 8) (sym : Code) : Word :=
  0#4 ++ sym ++ cause ++ 0#4 ++ kind.code ++ rc

/-- `OK` "is the word 0x00000000" (R94). -/
def okWord : Word := responseWord 0#2 .noError 0#8 0#12

/-- `REJECTED`: `RC` 2 with the kind and cause of `CMD_ILLEGAL` (R94, R263). -/
def rejectedWord : Word := responseWord 2#2 Cause.cmdIllegal.kind Cause.cmdIllegal.code 0#12

/-- `ERROR`: `RC` 1 with the kind, cause and symbol of the fault (R94, R268). -/
def errorWord (cause : Cause) (sym : Code) : Word := responseWord 1#2 cause.kind cause.code sym

/-- `ERRINFO` of a standing fault (R24): bits 31:28 are 0, then `SYM`, eight 0 bits, `CAUSE`. -/
def errinfoWord (cause : Cause) (sym : Code) : Word :=
  0#4 ++ sym ++ 0#8 ++ cause.code

/-- `STATUS`, "a view of the state elements" with "no storage of its own" (R23). -/
def statusWord (s : State) : Word :=
  0#22 ++ s.errkind.code ++ BitVec.ofBool s.fin ++ BitVec.ofBool s.chain ++ s.dir.code
    ++ s.unit.code ++ s.phase.code

/-- The bits of `CTRL` that exist: 0, 1, 2 and 6:4 (R30). -/
def ctrlMask : Word := 0x77#32

/-- `CTRL.STRICT` (R30). -/
def ctrlStrict (w : Word) : Bool := w.getLsbD 0

/-- `CTRL.HEXUP` (R30). -/
def ctrlHexup (w : Word) : Bool := w.getLsbD 1

/-- `CTRL.LEADCLR` (R30). -/
def ctrlLeadclr (w : Word) : Bool := w.getLsbD 2

/-- `CTRL.OPTTAG` (R30). -/
def ctrlOpttag (w : Word) : BitVec 3 := w.extractLsb' 4 3

end Sys2Proof.Machine
end

