-- ==== Sys2Proof/Machine/Operands.lean ====
section
/-! DEFINITION. What the rules compute on the symbols and data they take: whitespace and hex digits (R96, R98,
R160), base-85 groups (R140), big-endian bytes (R6, R67), bit strings (R70), and the geometry of a
predicted row (R34). -/

namespace Sys2Proof.Machine

/-- The whitespace set `WS` of both text decoders (R5, R96, R98). -/
def isWs (ch : Byte) : Bool :=
  ch == 0x00#8 || ch == 0x09#8 || ch == 0x0A#8 || ch == 0x0C#8 || ch == 0x0D#8 || ch == 0x20#8

/-- A byte recorded as the symbol of a fault (R24). -/
def byteSym (ch : Byte) : Code := ch.setWidth 12

/-- `hexval` (R160, R98): defined for the 22 hex digits, both cases. -/
def hexval (ch : Byte) : Option (BitVec 4) :=
  if 0x30 ≤ ch.toNat ∧ ch.toNat ≤ 0x39 then some (BitVec.ofNat 4 (ch.toNat - 0x30))
  else if 0x41 ≤ ch.toNat ∧ ch.toNat ≤ 0x46 then some (BitVec.ofNat 4 (ch.toNat - 0x41 + 10))
  else if 0x61 ≤ ch.toNat ∧ ch.toNat ≤ 0x66 then some (BitVec.ofNat 4 (ch.toNat - 0x61 + 10))
  else none

/-- `hexchar(n, up)` (R160). -/
def hexchar (n : BitVec 4) (up : Bool) : Byte :=
  if n.toNat ≤ 9 then BitVec.ofNat 8 (0x30 + n.toNat)
  else if up then BitVec.ofNat 8 (0x41 + n.toNat - 10)
  else BitVec.ofNat 8 (0x61 + n.toNat - 10)

/-- `be(bytes)` (R6): the unsigned number whose most significant byte comes first. -/
def beNat (bs : List Byte) : Nat := bs.foldl (fun v b => v * 256 + b.toNat) 0

/-- `BE32(v)` (R6): the four bytes of `v`, most significant first. -/
def be32 (v : Nat) : List Byte :=
  [BitVec.ofNat 8 (v / 2 ^ 24), BitVec.ofNat 8 (v / 2 ^ 16), BitVec.ofNat 8 (v / 2 ^ 8), BitVec.ofNat 8 v]

/-- `digits85(v)` (R140), most significant digit first. -/
def digits85 (v : Nat) : List Nat :=
  [v / 85 ^ 4 % 85, v / 85 ^ 3 % 85, v / 85 ^ 2 % 85, v / 85 % 85, v % 85]

/-- `chars85(v)` (R140): the digits plus 33. -/
def chars85 (v : Nat) : List Byte := (digits85 v).map (fun d => BitVec.ofNat 8 (d + 33))

/-- `value85` (R140), in the naturals, so that a group above `2^32 - 1` is seen before any truncation. -/
def value85 (ds : List Nat) : Nat := ds.foldl (fun v d => v * 85 + d) 0

/-- The bit string of a row: "bytes in order, each most significant bit first" (R218). -/
def bitsOfBytes (bs : List Byte) : List Bool :=
  bs.flatMap (fun b => (List.range 8).map b.getMsbD)

/-- The unsigned number a bit string forms, "first bit most significant" (R218). -/
def natOfBits (bits : List Bool) : Nat := bits.foldl (fun n b => 2 * n + b.toNat) 0

/-- The `w`-bit string of a number, most significant bit first (R218). -/
def bitsOfNat (w v : Nat) : List Bool := (List.range w).map (fun i => v.testBit (w - 1 - i))

/-- The first `m` bytes of a bit string, each most significant bit first (R218). -/
def bytesOfBits : Nat → List Bool → List Byte
  | 0, _ => []
  | m + 1, bits => BitVec.ofNat 8 (natOfBits (bits.take 8)) :: bytesOfBits m (bits.drop 8)

/-- `W = ceil(L_COLUMNS * L_COLORS * L_BPC / 8)`, in the naturals (R34, R213). -/
def Latches.rowBytes (l : Latches) : Nat :=
  (l.columns.toNat * l.colors.toNat * l.bpc.toNat + 7) / 8

/-- `bpp = ceil(L_BPC * L_COLORS / 8)` (R34, R213). -/
def Latches.pixelBytes (l : Latches) : Nat :=
  (l.bpc.toNat * l.colors.toNat + 7) / 8

/-- `png = (L_PRED >= 10)` (R34). -/
def Latches.png (l : Latches) : Bool := decide (10 ≤ l.pred.toNat)

/-- `U`, the input bytes that make one unit of work (R34): tag and row for PNG decode, a row otherwise. -/
def Latches.unitBytes (l : Latches) (dir : Direction) : Nat :=
  if l.png = true ∧ dir = .dec then l.rowBytes + 1 else l.rowBytes

/-- A legal value of `L_PRED` (R33 check 1, R102). -/
def Latches.predLegal (l : Latches) : Bool :=
  l.pred == 1#32 || l.pred == 2#32 || decide (10 ≤ l.pred.toNat ∧ l.pred.toNat ≤ 15)

/-- A legal value of `L_BPC` (R33 check 2). -/
def Latches.bpcLegal (l : Latches) : Bool :=
  l.bpc == 1#32 || l.bpc == 2#32 || l.bpc == 4#32 || l.bpc == 8#32 || l.bpc == 16#32

end Sys2Proof.Machine
end

