-- ==== Sys2Proof/Machine/Ops.lean ====
section
/-! DEFINITION. The named operations the meanings share: answering a command (R121, R122), emitting output (R7),
taking a fault and leaving one (R268, R270), the register port (R21 to R30), latching and checking the
parameters (R33), and reset (R290). -/

namespace Sys2Proof.Machine

/-- `emit(bytes)` (R7): append to the output payload of the transaction in progress. -/
def emitOut (bytes : List Byte) (s : State) : State := { s with out := s.out ++ bytes }

/-- `RSP <- w; respond(w, payload)` (R25, R62). -/
def respond (w : Word) (payload : List Byte) (s : State) : State := { s with rsp := w, out := payload }

/-- `reject` (R121): only `RSP` changes, and the payload answered is empty. -/
def reject (s : State) : State := respond rejectedWord [] s

/-- `discard codec state` (R123, R133, R134, R268). -/
def discardCodec (s : State) : State := { s with codec := none, rows := none }

/-- TAKING A FAULT: the entry sequence of R268, the same for every cause. The output of the transaction is
dropped, the codec state discarded; `unit`, `dir`, `chain`, `fin`, the registers and `CTRL` are kept. -/
def faultEntry (cause : Cause) (sym : Code) (s : State) : State :=
  { s with
    out := []
    codec := none
    rows := none
    errkind := cause.kind
    errinfo := errinfoWord cause sym
    phase := .error
    rsp := errorWord cause sym }

/-- LEAVING A FAULT: there is no return (R270). START and ABORT clear the standing fault and the flag
`fin` on their way to a new phase (R123, R134). -/
def clearFault (s : State) : State := { s with fin := false, errkind := .noError, errinfo := 0#32 }

/-- A byte rule's answer taken by a stage whose output leaves the block: the fault it raises, or the new
codec state, its emission, and `fin` set when the terminator was consumed (R32). -/
def applyAnswer {σ : Type} (wrap : σ → Codec) (a : Answer σ) (s : State) : State :=
  match a with
  | .raise cause sym => faultEntry cause sym s
  | .emit st bytes term => emitOut bytes { s with codec := some (wrap st), fin := s.fin || term }

/-- The value a register read returns (R21 to R30): `CMD` and every offset from 0x24 up read 0. -/
def readRegister (offset : Nat) (s : State) : Word :=
  if offset = 0x04 then statusWord s
  else if offset = 0x08 then s.errinfo
  else if offset = 0x0C then s.rsp
  else if offset = 0x10 then s.predictor
  else if offset = 0x14 then s.colors
  else if offset = 0x18 then s.bpc
  else if offset = 0x1C then s.columns
  else if offset = 0x20 then s.ctrl
  else 0#32

/-- A register write that is no command (R21, R26 to R30): the read-only registers and every offset from
0x24 up ignore it, and so do the reserved bits of `CTRL`. -/
def writeRegister (offset : Nat) (value : Word) (s : State) : State :=
  if offset = 0x10 then { s with predictor := value }
  else if offset = 0x14 then { s with colors := value }
  else if offset = 0x18 then { s with bpc := value }
  else if offset = 0x1C then { s with columns := value }
  else if offset = 0x20 then { s with ctrl := value &&& ctrlMask }
  else s

/-- What START copies into the eight latches (R33). -/
def latchOf (s : State) : Latches :=
  { pred := s.predictor, colors := s.colors, bpc := s.bpc, columns := s.columns
    strict := ctrlStrict s.ctrl, hexup := ctrlHexup s.ctrl
    leadclr := ctrlLeadclr s.ctrl, opttag := ctrlOpttag s.ctrl }

/-- The predictor works in this invocation: it is attached (R33: "`unit` is PRED, or `unit` is LZW and
`L_PRED != 1`") and `L_PRED` is not 1. -/
def predictorOn (unit : CodecUnit) (l : Latches) : Bool :=
  (unit == .pred || unit == .lzw) && l.pred != 1#32

/-- `W <= ROW_MAX`, skipped when `ROW_MAX` is "no limit" (R33 check 3). -/
def rowFits (cfg : Config) (l : Latches) : Bool :=
  match cfg.rowMax with
  | none => true
  | some m => decide (l.rowBytes ≤ m)

/-- The four checks of START (R33); all fail with the same cause, so their order shows nowhere (R266). -/
def startChecks (cfg : Config) (unit : CodecUnit) (dir : Direction) (l : Latches) : Bool :=
  (!(unit == .lzw || unit == .pred) || l.predLegal) &&
  (!predictorOn unit l ||
    (decide (1 ≤ l.colors.toNat) && decide (1 ≤ l.columns.toNat) && l.bpcLegal && rowFits cfg l &&
      (!(dir == .enc && l.pred == 15#32) || decide (l.opttag.toNat ≤ 4))))

/-- The buffers START creates (R43, R128 to R131): `CUR <- []`, `PREV <- W zero bytes`, when the predictor
works in the invocation. -/
def startRows (unit : CodecUnit) (l : Latches) : Option Rows :=
  if predictorOn unit l then some { cur := [], prev := List.replicate l.rowBytes 0#8 } else none

/-- A PUSH payload within `CHUNK_MAX` (R5, R132). -/
def payloadFits (s : State) : Bool :=
  match s.cfg.chunkMax with
  | none => true
  | some m => decide (s.inp.length ≤ m)

/-- The state while and after reset is asserted (R290, R47). The configuration is no state, and what the
host does after the reset is not lost by it (notes/assumptions/17.md). -/
def resetBlock (s : State) : State := { State.reset with cfg := s.cfg, port := s.port }

end Sys2Proof.Machine
end

