-- ==== Sys2Proof/Machine/A85.lean ====
section
/-! DEFINITION. The A85 unit (41_ascii85.md): its byte rules, its FINISH rules, and below them the meaning of
every A85CH and A85CH_T class of the table. -/

namespace Sys2Proof.Machine

/-- Encode, PUSH, per input byte (R141): the new `ebuf` and what is emitted. -/
def a85EncByte (b : Byte) (ebuf : List Byte) : List Byte × List Byte :=
  let full := ebuf ++ [b]
  if full.length = 4 then
    ([], if beNat full = 0 then [0x7A#8] else chars85 (beNat full))
  else (full, [])

/-- Encode, FINISH (R142): the zero-padded partial group cut to `n + 1` characters, then `~>`. -/
def a85EncFinish (ebuf : List Byte) : List Byte :=
  (if ebuf.length = 0 then []
   else (chars85 (beNat (ebuf ++ List.replicate (4 - ebuf.length) 0#8))).take (ebuf.length + 1))
  ++ [0x7E#8, 0x3E#8]

/-- Whitespace (R145): consumed, nothing emitted, no state change. -/
def a85Skip (d : A85Dec) : Answer A85Dec := .emit d [] false

/-- `z` (R146): a zero group, or a fault inside a group. -/
def a85Z (d : A85Dec) : Answer A85Dec :=
  if d.dig.length ≠ 0 then .raise .a85ZInGroup 0x07A#12
  else .emit d [0#8, 0#8, 0#8, 0#8] false

/-- A digit (R147). -/
def a85Digit (ch : Byte) (d : A85Dec) : Answer A85Dec :=
  let dig := d.dig ++ [ch.toNat - 33]
  if dig.length = 5 then
    if value85 dig > 0xFFFFFFFF then .raise .a85Overflow (byteSym ch)
    else .emit { d with dig := [] } (be32 (value85 dig)) false
  else .emit { d with dig := dig } [] false

/-- `~` with `tilde = 0` (R148). -/
def a85Tilde (d : A85Dec) : Answer A85Dec := .emit { d with tilde := true } [] false

/-- Neither whitespace nor `>` after `~` (R148). -/
def a85BadTerm (ch : Byte) : Answer A85Dec := .raise .a85BadTerm (byteSym ch)

/-- A bad character (R151). -/
def a85BadChar (ch : Byte) : Answer A85Dec := .raise .a85BadChar (byteSym ch)

/-- `>` with `tilde = 1` (R149): the final partial group padded with 84s, cut to `n - 1` bytes; `fin` is set. -/
def a85Gt (d : A85Dec) : Answer A85Dec :=
  let n := d.dig.length
  if n = 0 then .emit { dig := [], tilde := false } [] true
  else
    let v := value85 (d.dig ++ List.replicate (5 - n) 84)
    if v > 0xFFFFFFFF then .raise .a85Overflow 0x03E#12
    else .emit { dig := [], tilde := false } ((be32 v).take (n - 1)) true

/-- The order of the tests of a byte (R143), after the test of `fin`. -/
def a85DecByte (ch : Byte) (d : A85Dec) : Answer A85Dec :=
  if isWs ch then a85Skip d
  else if d.tilde = true ∧ ch = 0x3E#8 then a85Gt d
  else if d.tilde = true then a85BadTerm ch
  else if ch = 0x7E#8 then a85Tilde d
  else if ch = 0x7A#8 then a85Z d
  else if 0x21 ≤ ch.toNat ∧ ch.toNat ≤ 0x75 then a85Digit ch d
  else a85BadChar ch

/-- Decode, FINISH (R150). -/
def a85DecFinish (s : State) : State :=
  if s.fin then s else faultEntry .a85NoTerm 0#12 s

/-- A symbol of base-85 text as an instruction: the rule of its class applied where the A85 decoder is at
work with the `tilde` the format stands for (R96); after the terminator it is consumed and ignored
(R144). Elsewhere no such symbol is fetched (notes/assumptions/6.md). -/
def a85Symbol (tilde : Bool) (rule : A85Dec → Answer A85Dec) (s : State) : Host.Outcome State Fault Refusal :=
  match s.phase, s.codec with
  | .active, some (.a85Dec d) =>
    if s.fin then .next s
    else if d.tilde = tilde then .next (applyAnswer Codec.a85Dec (rule d) s)
    else .refused .outOfContext
  | _, _ => .refused .outOfContext

/- ---- the rows of the table ---- -/

/-- `A85CH.WS_0x00-0x00` (R145). -/
def execA85chWs00 (s : State) : Host.Outcome State Fault Refusal :=
  a85Symbol false a85Skip s

/-- `A85CH.WS_0x09-0x09` (R145). -/
def execA85chWs09 (s : State) : Host.Outcome State Fault Refusal :=
  a85Symbol false a85Skip s

/-- `A85CH.WS_0x0A-0x0A` (R145). -/
def execA85chWs0A (s : State) : Host.Outcome State Fault Refusal :=
  a85Symbol false a85Skip s

/-- `A85CH.WS_0x0C-0x0D` (R145). -/
def execA85chWs0Cto0D (_ch : Byte) (s : State) : Host.Outcome State Fault Refusal :=
  a85Symbol false a85Skip s

/-- `A85CH.WS_0x20-0x20` (R145). -/
def execA85chWs20 (s : State) : Host.Outcome State Fault Refusal :=
  a85Symbol false a85Skip s

/-- `A85CH.DIGIT_0x21-0x21` (R147). -/
def execA85chDigit21 (s : State) : Host.Outcome State Fault Refusal :=
  a85Symbol false (a85Digit 0x21#8) s

/-- `A85CH.DIGIT_0x22-0x23` (R147). -/
def execA85chDigit22to23 (ch : Byte) (s : State) : Host.Outcome State Fault Refusal :=
  a85Symbol false (a85Digit ch) s

/-- `A85CH.DIGIT_0x24-0x27` (R147). -/
def execA85chDigit24to27 (ch : Byte) (s : State) : Host.Outcome State Fault Refusal :=
  a85Symbol false (a85Digit ch) s

/-- `A85CH.DIGIT_0x28-0x2F` (R147). -/
def execA85chDigit28to2F (ch : Byte) (s : State) : Host.Outcome State Fault Refusal :=
  a85Symbol false (a85Digit ch) s

/-- `A85CH.DIGIT_0x30-0x3F` (R147). -/
def execA85chDigit30to3F (ch : Byte) (s : State) : Host.Outcome State Fault Refusal :=
  a85Symbol false (a85Digit ch) s

/-- `A85CH.DIGIT_0x40-0x5F` (R147). -/
def execA85chDigit40to5F (ch : Byte) (s : State) : Host.Outcome State Fault Refusal :=
  a85Symbol false (a85Digit ch) s

/-- `A85CH.DIGIT_0x60-0x6F` (R147). -/
def execA85chDigit60to6F (ch : Byte) (s : State) : Host.Outcome State Fault Refusal :=
  a85Symbol false (a85Digit ch) s

/-- `A85CH.DIGIT_0x70-0x73` (R147). -/
def execA85chDigit70to73 (ch : Byte) (s : State) : Host.Outcome State Fault Refusal :=
  a85Symbol false (a85Digit ch) s

/-- `A85CH.DIGIT_0x74-0x75` (R147). -/
def execA85chDigit74to75 (ch : Byte) (s : State) : Host.Outcome State Fault Refusal :=
  a85Symbol false (a85Digit ch) s

/-- `A85CH.Z_0x7A-0x7A` (R146). -/
def execA85chZ7A (s : State) : Host.Outcome State Fault Refusal :=
  a85Symbol false a85Z s

/-- `A85CH.TILDE_0x7E-0x7E` (R148). -/
def execA85chTilde7E (s : State) : Host.Outcome State Fault Refusal :=
  a85Symbol false a85Tilde s

/-- `A85CH.BAD_0x01-0x01` (R151). -/
def execA85chBad01 (s : State) : Host.Outcome State Fault Refusal :=
  a85Symbol false (fun _ => a85BadChar 0x01#8) s

/-- `A85CH.BAD_0x02-0x03` (R151). -/
def execA85chBad02to03 (ch : Byte) (s : State) : Host.Outcome State Fault Refusal :=
  a85Symbol false (fun _ => a85BadChar ch) s

/-- `A85CH.BAD_0x04-0x07` (R151). -/
def execA85chBad04to07 (ch : Byte) (s : State) : Host.Outcome State Fault Refusal :=
  a85Symbol false (fun _ => a85BadChar ch) s

/-- `A85CH.BAD_0x08-0x08` (R151). -/
def execA85chBad08 (s : State) : Host.Outcome State Fault Refusal :=
  a85Symbol false (fun _ => a85BadChar 0x08#8) s

/-- `A85CH.BAD_0x0B-0x0B` (R151). -/
def execA85chBad0B (s : State) : Host.Outcome State Fault Refusal :=
  a85Symbol false (fun _ => a85BadChar 0x0B#8) s

/-- `A85CH.BAD_0x0E-0x0F` (R151). -/
def execA85chBad0Eto0F (ch : Byte) (s : State) : Host.Outcome State Fault Refusal :=
  a85Symbol false (fun _ => a85BadChar ch) s

/-- `A85CH.BAD_0x10-0x1F` (R151). -/
def execA85chBad10to1F (ch : Byte) (s : State) : Host.Outcome State Fault Refusal :=
  a85Symbol false (fun _ => a85BadChar ch) s

/-- `A85CH.BAD_0x76-0x77` (R151). -/
def execA85chBad76to77 (ch : Byte) (s : State) : Host.Outcome State Fault Refusal :=
  a85Symbol false (fun _ => a85BadChar ch) s

/-- `A85CH.BAD_0x78-0x79` (R151). -/
def execA85chBad78to79 (ch : Byte) (s : State) : Host.Outcome State Fault Refusal :=
  a85Symbol false (fun _ => a85BadChar ch) s

/-- `A85CH.BAD_0x7B-0x7B` (R151). -/
def execA85chBad7B (s : State) : Host.Outcome State Fault Refusal :=
  a85Symbol false (fun _ => a85BadChar 0x7B#8) s

/-- `A85CH.BAD_0x7C-0x7D` (R151). -/
def execA85chBad7Cto7D (ch : Byte) (s : State) : Host.Outcome State Fault Refusal :=
  a85Symbol false (fun _ => a85BadChar ch) s

/-- `A85CH.BAD_0x7F-0x7F` (R151). -/
def execA85chBad7F (s : State) : Host.Outcome State Fault Refusal :=
  a85Symbol false (fun _ => a85BadChar 0x7F#8) s

/-- `A85CH.BAD_0x80-0xFF` (R151). -/
def execA85chBad80toFF (ch : Byte) (s : State) : Host.Outcome State Fault Refusal :=
  a85Symbol false (fun _ => a85BadChar ch) s

/-- `A85CH_T.WS_0x00-0x00` (R145). -/
def execA85chTWs00 (s : State) : Host.Outcome State Fault Refusal :=
  a85Symbol true a85Skip s

/-- `A85CH_T.WS_0x09-0x09` (R145). -/
def execA85chTWs09 (s : State) : Host.Outcome State Fault Refusal :=
  a85Symbol true a85Skip s

/-- `A85CH_T.WS_0x0A-0x0A` (R145). -/
def execA85chTWs0A (s : State) : Host.Outcome State Fault Refusal :=
  a85Symbol true a85Skip s

/-- `A85CH_T.WS_0x0C-0x0D` (R145). -/
def execA85chTWs0Cto0D (_ch : Byte) (s : State) : Host.Outcome State Fault Refusal :=
  a85Symbol true a85Skip s

/-- `A85CH_T.WS_0x20-0x20` (R145). -/
def execA85chTWs20 (s : State) : Host.Outcome State Fault Refusal :=
  a85Symbol true a85Skip s

/-- `A85CH_T.GT_0x3E-0x3E` (R149). -/
def execA85chTGt3E (s : State) : Host.Outcome State Fault Refusal :=
  a85Symbol true a85Gt s

/-- `A85CH_T.BAD_0x01-0x01` (R148). -/
def execA85chTBad01 (s : State) : Host.Outcome State Fault Refusal :=
  a85Symbol true (fun _ => a85BadTerm 0x01#8) s

/-- `A85CH_T.BAD_0x02-0x03` (R148). -/
def execA85chTBad02to03 (ch : Byte) (s : State) : Host.Outcome State Fault Refusal :=
  a85Symbol true (fun _ => a85BadTerm ch) s

/-- `A85CH_T.BAD_0x04-0x07` (R148). -/
def execA85chTBad04to07 (ch : Byte) (s : State) : Host.Outcome State Fault Refusal :=
  a85Symbol true (fun _ => a85BadTerm ch) s

/-- `A85CH_T.BAD_0x08-0x08` (R148). -/
def execA85chTBad08 (s : State) : Host.Outcome State Fault Refusal :=
  a85Symbol true (fun _ => a85BadTerm 0x08#8) s

/-- `A85CH_T.BAD_0x0B-0x0B` (R148). -/
def execA85chTBad0B (s : State) : Host.Outcome State Fault Refusal :=
  a85Symbol true (fun _ => a85BadTerm 0x0B#8) s

/-- `A85CH_T.BAD_0x0E-0x0F` (R148). -/
def execA85chTBad0Eto0F (ch : Byte) (s : State) : Host.Outcome State Fault Refusal :=
  a85Symbol true (fun _ => a85BadTerm ch) s

/-- `A85CH_T.BAD_0x10-0x1F` (R148). -/
def execA85chTBad10to1F (ch : Byte) (s : State) : Host.Outcome State Fault Refusal :=
  a85Symbol true (fun _ => a85BadTerm ch) s

/-- `A85CH_T.BAD_0x21-0x21` (R148). -/
def execA85chTBad21 (s : State) : Host.Outcome State Fault Refusal :=
  a85Symbol true (fun _ => a85BadTerm 0x21#8) s

/-- `A85CH_T.BAD_0x22-0x23` (R148). -/
def execA85chTBad22to23 (ch : Byte) (s : State) : Host.Outcome State Fault Refusal :=
  a85Symbol true (fun _ => a85BadTerm ch) s

/-- `A85CH_T.BAD_0x24-0x27` (R148). -/
def execA85chTBad24to27 (ch : Byte) (s : State) : Host.Outcome State Fault Refusal :=
  a85Symbol true (fun _ => a85BadTerm ch) s

/-- `A85CH_T.BAD_0x28-0x2F` (R148). -/
def execA85chTBad28to2F (ch : Byte) (s : State) : Host.Outcome State Fault Refusal :=
  a85Symbol true (fun _ => a85BadTerm ch) s

/-- `A85CH_T.BAD_0x30-0x37` (R148). -/
def execA85chTBad30to37 (ch : Byte) (s : State) : Host.Outcome State Fault Refusal :=
  a85Symbol true (fun _ => a85BadTerm ch) s

/-- `A85CH_T.BAD_0x38-0x3B` (R148). -/
def execA85chTBad38to3B (ch : Byte) (s : State) : Host.Outcome State Fault Refusal :=
  a85Symbol true (fun _ => a85BadTerm ch) s

/-- `A85CH_T.BAD_0x3C-0x3D` (R148). -/
def execA85chTBad3Cto3D (ch : Byte) (s : State) : Host.Outcome State Fault Refusal :=
  a85Symbol true (fun _ => a85BadTerm ch) s

/-- `A85CH_T.BAD_0x3F-0x3F` (R148). -/
def execA85chTBad3F (s : State) : Host.Outcome State Fault Refusal :=
  a85Symbol true (fun _ => a85BadTerm 0x3F#8) s

/-- `A85CH_T.BAD_0x40-0x7F` (R148). -/
def execA85chTBad40to7F (ch : Byte) (s : State) : Host.Outcome State Fault Refusal :=
  a85Symbol true (fun _ => a85BadTerm ch) s

/-- `A85CH_T.BAD_0x80-0xFF` (R148). -/
def execA85chTBad80toFF (ch : Byte) (s : State) : Host.Outcome State Fault Refusal :=
  a85Symbol true (fun _ => a85BadTerm ch) s

end Sys2Proof.Machine
end

