-- ==== Sys2Proof/Machine/Ahx.lean ====
section
/-! DEFINITION. The AHX unit (42_asciihex.md): its byte rules, its FINISH rules, and below them the meaning of
every AHXCH class of the table. -/

namespace Sys2Proof.Machine

/-- Encode, PUSH, per input byte (R161): high nibble first. -/
def ahxEncByte (up : Bool) (b : Byte) : List Byte :=
  [hexchar (b.extractLsb' 4 4) up, hexchar (b.extractLsb' 0 4) up]

/-- Encode, FINISH (R162). -/
def ahxEncFinish : List Byte := [0x3E#8]

/-- Whitespace (R163): no effect. -/
def ahxSkip (d : AhxDec) : Answer AhxDec := .emit d [] false

/-- A hex digit (R164): the first of a pair waits, the second completes the byte. -/
def ahxHex (v : BitVec 4) (d : AhxDec) : Answer AhxDec :=
  if d.waiting then .emit { waiting := false, hi := 0#4 } [d.hi ++ v] false
  else .emit { waiting := true, hi := v } [] false

/-- `>` (R165): a waiting digit takes the implicit 0 nibble; `fin` is set. -/
def ahxGt (d : AhxDec) : Answer AhxDec :=
  if d.waiting then .emit { waiting := false, hi := 0#4 } [d.hi ++ 0#4] true
  else .emit d [] true

/-- A bad character (R166). -/
def ahxBadChar (ch : Byte) : Answer AhxDec := .raise .ahxBadChar (byteSym ch)

/-- A byte that is neither whitespace nor `>`: a digit where `hexval` is defined (R164), else bad (R166).
`hexval` is defined on every byte of a HEX class (R98). -/
def ahxDigit (ch : Byte) (d : AhxDec) : Answer AhxDec :=
  match hexval ch with
  | some v => ahxHex v d
  | none => ahxBadChar ch

/-- The order of the tests of a byte (R163), after the test of `fin`. -/
def ahxDecByte (ch : Byte) (d : AhxDec) : Answer AhxDec :=
  if isWs ch then ahxSkip d
  else if ch = 0x3E#8 then ahxGt d
  else ahxDigit ch d

/-- Decode, FINISH (R167): the dangling nibble is reported before the missing terminator (R266). -/
def ahxDecFinish (d : AhxDec) (s : State) : State :=
  if s.fin then s
  else if d.waiting then faultEntry .ahxOddNibble 0#12 s
  else faultEntry .ahxNoTerm 0#12 s

/-- A symbol of base-16 text as an instruction: the rule of its class applied where the AHX decoder is at
work (R98); after the terminator it is consumed and ignored (R163). Elsewhere no such symbol is fetched
(notes/assumptions/6.md). -/
def ahxSymbol (rule : AhxDec → Answer AhxDec) (s : State) : Host.Outcome State Fault Refusal :=
  match s.phase, s.codec with
  | .active, some (.ahxDec d) =>
    if s.fin then .next s else .next (applyAnswer Codec.ahxDec (rule d) s)
  | _, _ => .refused .outOfContext

/- ---- the rows of the table ---- -/

/-- `AHXCH.WS_0x00-0x00` (R163). -/
def execAhxchWs00 (s : State) : Host.Outcome State Fault Refusal :=
  ahxSymbol ahxSkip s

/-- `AHXCH.WS_0x09-0x09` (R163). -/
def execAhxchWs09 (s : State) : Host.Outcome State Fault Refusal :=
  ahxSymbol ahxSkip s

/-- `AHXCH.WS_0x0A-0x0A` (R163). -/
def execAhxchWs0A (s : State) : Host.Outcome State Fault Refusal :=
  ahxSymbol ahxSkip s

/-- `AHXCH.WS_0x0C-0x0D` (R163). -/
def execAhxchWs0Cto0D (_ch : Byte) (s : State) : Host.Outcome State Fault Refusal :=
  ahxSymbol ahxSkip s

/-- `AHXCH.WS_0x20-0x20` (R163). -/
def execAhxchWs20 (s : State) : Host.Outcome State Fault Refusal :=
  ahxSymbol ahxSkip s

/-- `AHXCH.HEX_0x30-0x37` (R164). -/
def execAhxchHex30to37 (ch : Byte) (s : State) : Host.Outcome State Fault Refusal :=
  ahxSymbol (ahxDigit ch) s

/-- `AHXCH.HEX_0x38-0x39` (R164). -/
def execAhxchHex38to39 (ch : Byte) (s : State) : Host.Outcome State Fault Refusal :=
  ahxSymbol (ahxDigit ch) s

/-- `AHXCH.HEX_0x41-0x41` (R164). -/
def execAhxchHex41 (s : State) : Host.Outcome State Fault Refusal :=
  ahxSymbol (ahxDigit 0x41#8) s

/-- `AHXCH.HEX_0x42-0x43` (R164). -/
def execAhxchHex42to43 (ch : Byte) (s : State) : Host.Outcome State Fault Refusal :=
  ahxSymbol (ahxDigit ch) s

/-- `AHXCH.HEX_0x44-0x45` (R164). -/
def execAhxchHex44to45 (ch : Byte) (s : State) : Host.Outcome State Fault Refusal :=
  ahxSymbol (ahxDigit ch) s

/-- `AHXCH.HEX_0x46-0x46` (R164). -/
def execAhxchHex46 (s : State) : Host.Outcome State Fault Refusal :=
  ahxSymbol (ahxDigit 0x46#8) s

/-- `AHXCH.HEX_0x61-0x61` (R164). -/
def execAhxchHex61 (s : State) : Host.Outcome State Fault Refusal :=
  ahxSymbol (ahxDigit 0x61#8) s

/-- `AHXCH.HEX_0x62-0x63` (R164). -/
def execAhxchHex62to63 (ch : Byte) (s : State) : Host.Outcome State Fault Refusal :=
  ahxSymbol (ahxDigit ch) s

/-- `AHXCH.HEX_0x64-0x65` (R164). -/
def execAhxchHex64to65 (ch : Byte) (s : State) : Host.Outcome State Fault Refusal :=
  ahxSymbol (ahxDigit ch) s

/-- `AHXCH.HEX_0x66-0x66` (R164). -/
def execAhxchHex66 (s : State) : Host.Outcome State Fault Refusal :=
  ahxSymbol (ahxDigit 0x66#8) s

/-- `AHXCH.GT_0x3E-0x3E` (R165). -/
def execAhxchGt3E (s : State) : Host.Outcome State Fault Refusal :=
  ahxSymbol ahxGt s

/-- `AHXCH.BAD_0x01-0x01` (R166). -/
def execAhxchBad01 (s : State) : Host.Outcome State Fault Refusal :=
  ahxSymbol (fun _ => ahxBadChar 0x01#8) s

/-- `AHXCH.BAD_0x02-0x03` (R166). -/
def execAhxchBad02to03 (ch : Byte) (s : State) : Host.Outcome State Fault Refusal :=
  ahxSymbol (fun _ => ahxBadChar ch) s

/-- `AHXCH.BAD_0x04-0x07` (R166). -/
def execAhxchBad04to07 (ch : Byte) (s : State) : Host.Outcome State Fault Refusal :=
  ahxSymbol (fun _ => ahxBadChar ch) s

/-- `AHXCH.BAD_0x08-0x08` (R166). -/
def execAhxchBad08 (s : State) : Host.Outcome State Fault Refusal :=
  ahxSymbol (fun _ => ahxBadChar 0x08#8) s

/-- `AHXCH.BAD_0x0B-0x0B` (R166). -/
def execAhxchBad0B (s : State) : Host.Outcome State Fault Refusal :=
  ahxSymbol (fun _ => ahxBadChar 0x0B#8) s

/-- `AHXCH.BAD_0x0E-0x0F` (R166). -/
def execAhxchBad0Eto0F (ch : Byte) (s : State) : Host.Outcome State Fault Refusal :=
  ahxSymbol (fun _ => ahxBadChar ch) s

/-- `AHXCH.BAD_0x10-0x1F` (R166). -/
def execAhxchBad10to1F (ch : Byte) (s : State) : Host.Outcome State Fault Refusal :=
  ahxSymbol (fun _ => ahxBadChar ch) s

/-- `AHXCH.BAD_0x21-0x21` (R166). -/
def execAhxchBad21 (s : State) : Host.Outcome State Fault Refusal :=
  ahxSymbol (fun _ => ahxBadChar 0x21#8) s

/-- `AHXCH.BAD_0x22-0x23` (R166). -/
def execAhxchBad22to23 (ch : Byte) (s : State) : Host.Outcome State Fault Refusal :=
  ahxSymbol (fun _ => ahxBadChar ch) s

/-- `AHXCH.BAD_0x24-0x27` (R166). -/
def execAhxchBad24to27 (ch : Byte) (s : State) : Host.Outcome State Fault Refusal :=
  ahxSymbol (fun _ => ahxBadChar ch) s

/-- `AHXCH.BAD_0x28-0x2F` (R166). -/
def execAhxchBad28to2F (ch : Byte) (s : State) : Host.Outcome State Fault Refusal :=
  ahxSymbol (fun _ => ahxBadChar ch) s

/-- `AHXCH.BAD_0x3A-0x3B` (R166). -/
def execAhxchBad3Ato3B (ch : Byte) (s : State) : Host.Outcome State Fault Refusal :=
  ahxSymbol (fun _ => ahxBadChar ch) s

/-- `AHXCH.BAD_0x3C-0x3D` (R166). -/
def execAhxchBad3Cto3D (ch : Byte) (s : State) : Host.Outcome State Fault Refusal :=
  ahxSymbol (fun _ => ahxBadChar ch) s

/-- `AHXCH.BAD_0x3F-0x3F` (R166). -/
def execAhxchBad3F (s : State) : Host.Outcome State Fault Refusal :=
  ahxSymbol (fun _ => ahxBadChar 0x3F#8) s

/-- `AHXCH.BAD_0x40-0x40` (R166). -/
def execAhxchBad40 (s : State) : Host.Outcome State Fault Refusal :=
  ahxSymbol (fun _ => ahxBadChar 0x40#8) s

/-- `AHXCH.BAD_0x47-0x47` (R166). -/
def execAhxchBad47 (s : State) : Host.Outcome State Fault Refusal :=
  ahxSymbol (fun _ => ahxBadChar 0x47#8) s

/-- `AHXCH.BAD_0x48-0x4F` (R166). -/
def execAhxchBad48to4F (ch : Byte) (s : State) : Host.Outcome State Fault Refusal :=
  ahxSymbol (fun _ => ahxBadChar ch) s

/-- `AHXCH.BAD_0x50-0x5F` (R166). -/
def execAhxchBad50to5F (ch : Byte) (s : State) : Host.Outcome State Fault Refusal :=
  ahxSymbol (fun _ => ahxBadChar ch) s

/-- `AHXCH.BAD_0x60-0x60` (R166). -/
def execAhxchBad60 (s : State) : Host.Outcome State Fault Refusal :=
  ahxSymbol (fun _ => ahxBadChar 0x60#8) s

/-- `AHXCH.BAD_0x67-0x67` (R166). -/
def execAhxchBad67 (s : State) : Host.Outcome State Fault Refusal :=
  ahxSymbol (fun _ => ahxBadChar 0x67#8) s

/-- `AHXCH.BAD_0x68-0x6F` (R166). -/
def execAhxchBad68to6F (ch : Byte) (s : State) : Host.Outcome State Fault Refusal :=
  ahxSymbol (fun _ => ahxBadChar ch) s

/-- `AHXCH.BAD_0x70-0x7F` (R166). -/
def execAhxchBad70to7F (ch : Byte) (s : State) : Host.Outcome State Fault Refusal :=
  ahxSymbol (fun _ => ahxBadChar ch) s

/-- `AHXCH.BAD_0x80-0xFF` (R166). -/
def execAhxchBad80toFF (ch : Byte) (s : State) : Host.Outcome State Fault Refusal :=
  ahxSymbol (fun _ => ahxBadChar ch) s

end Sys2Proof.Machine
end

