-- ==== Sys2Proof/Machine/LzwCore.lean ====
section
/-! DEFINITION. The LZW unit by itself (43_lzw.md): the table, `ReadCode` and the code rules of the decoder,
`WriteCode` and the byte rules of the encoder. What it emits is a list of bytes; where they go (out of the
block, or to the predictor of a chain) is Machine/Chain.lean's. All arithmetic is exact, on the naturals
(R6); `acc` stays below `2^19` by the invariant of R46 (notes/assumptions/18.md). -/

namespace Sys2Proof.Machine

/-- `TAB[c]` (R40): `[c]` for a literal, the recorded string from 258 up, and no string (`[]`) for the
reserved codes and for codes not mapped. -/
def tabString (tab : List (List Byte)) (c : Nat) : List Byte :=
  if c < 256 then [BitVec.ofNat 8 c]
  else if c < 258 then []
  else tab.getD (c - 258) []

/-- `s` is a string of `TAB` (R189): a single byte, or a recorded string. -/
def isTabString (tab : List (List Byte)) (s : List Byte) : Bool :=
  s.length == 1 || tab.contains s

/-- `code(s)` (R40): "the unique `c` with `TAB[c] = s`". -/
def tabCode (tab : List (List Byte)) (s : List Byte) : Nat :=
  match s with
  | [b] => b.toNat
  | _ => 258 + tab.idxOf s

/-- `Wdec` (R179). -/
def widthDec (t : Nat) : Nat :=
  if t ≤ 510 then 9 else if t ≤ 1022 then 10 else if t ≤ 2046 then 11 else 12

/-- `Wenc` (R190). -/
def widthEnc (t : Nat) : Nat :=
  if t ≤ 511 then 9 else if t ≤ 1023 then 10 else if t ≤ 2047 then 11 else 12

/-- The decoder's state START creates (R128, R176). -/
def lzwDecInit : LzwDec := { tab := [], tsize := 258, width := 9, acc := 0, nbits := 0, last := none }

/-- The encoder's state START creates (R129, R176), with `lead` from the latch `L_LEADCLR` (R42). -/
def lzwEncInit (lead : Bool) : LzwEnc :=
  { tab := [], tsize := 258, width := 9, cand := [], acc := 0, nbits := 0, lead := lead }

/-- `ReadCode` (R177): takes one input byte; a code is available or not yet. -/
def readCode (b : Byte) (d : LzwDec) : Option Code × LzwDec :=
  let acc := d.acc * 256 + b.toNat
  let nbits := d.nbits + 8
  if d.width ≤ nbits then
    let left := nbits - d.width
    (some (BitVec.ofNat 12 (acc / 2 ^ left)), { d with acc := acc % 2 ^ left, nbits := left })
  else (none, { d with acc := acc, nbits := nbits })

/-- Table full (R180): every code but CLEAR. -/
def lzwFull (code : Code) : Answer LzwDec := .raise .lzwTableFull code

/-- CLEAR (R181): the initial table, the initial width, `last <- NONE`. -/
def lzwClear (d : LzwDec) : Answer LzwDec :=
  .emit { d with tab := [], tsize := 258, width := 9, last := none } [] false

/-- EOD where the table is not full (R182): `fin` is set and the unread bits are dropped. -/
def lzwEod (d : LzwDec) : Answer LzwDec := .emit { d with acc := 0, nbits := 0 } [] true

/-- The first code of a table generation (R183): a literal, and no entry is recorded. -/
def lzwFirst (code : Code) (d : LzwDec) : Answer LzwDec :=
  if 258 ≤ code.toNat then .raise .lzwBadCode code
  else .emit { d with last := some code } (tabString d.tab code.toNat) false

/-- A normal code after the code `last` (R184, R185): emit its string and record `TAB[last]` extended by
the string's first byte. -/
def lzwNormal (last code : Code) (d : LzwDec) : Answer LzwDec :=
  let ls := tabString d.tab last.toNat
  if d.tsize < code.toNat then .raise .lzwBadCode code
  else
    let s := if code.toNat < d.tsize then tabString d.tab code.toNat else ls ++ ls.take 1
    .emit { d with
      tab := d.tab ++ [ls ++ s.take 1]
      tsize := d.tsize + 1
      width := widthDec (d.tsize + 1)
      last := some code } s false

/-- `DecodeStep` (R178): the first test that holds. -/
def lzwDecodeStep (code : Code) (d : LzwDec) : Answer LzwDec :=
  if d.tsize = 4095 ∧ code ≠ 256#12 then lzwFull code
  else if code = 257#12 then lzwEod d
  else if code = 256#12 then lzwClear d
  else
    match d.last with
    | none => lzwFirst code d
    | some last => lzwNormal last code d

/-- The rule of a code that stands for a string, LIT or REF: table full (R180), first of its generation
(R183), or normal (R185). -/
def lzwStringCode (code : Code) (d : LzwDec) : Answer LzwDec :=
  if d.tsize = 4095 then lzwFull code
  else
    match d.last with
    | none => lzwFirst code d
    | some last => lzwNormal last code d

/-- The rule of the code EOD: a fault when the table is full (R180), else R182. -/
def lzwEodCode (d : LzwDec) : Answer LzwDec :=
  if d.tsize = 4095 then lzwFull 257#12 else lzwEod d

/-- The loop of `WriteCode` (R187), `k` times: the oldest eight bits leave as a byte. -/
def drainBytes : Nat → Nat → Nat → List Byte × Nat × Nat
  | 0, acc, nbits => ([], acc, nbits)
  | k + 1, acc, nbits =>
    let left := nbits - 8
    let r := drainBytes k (acc % 2 ^ left) left
    (BitVec.ofNat 8 (acc / 2 ^ left) :: r.1, r.2)

/-- `WriteCode(c)` at the current width (R187); the loop runs while 8 bits are held, `nbits / 8` times. -/
def writeCode (c : Nat) (e : LzwEnc) : LzwEnc × List Byte :=
  let nbits := e.nbits + e.width
  let r := drainBytes (nbits / 8) (e.acc * 2 ^ e.width + c) nbits
  ({ e with acc := r.2.1, nbits := r.2.2 }, r.1)

/-- `Bump` (R190, R191): the width switch, or at table size 4096 the code CLEAR and the initial table. -/
def lzwBump (e : LzwEnc) : LzwEnc × List Byte :=
  if e.tsize = 512 then ({ e with width := 10 }, [])
  else if e.tsize = 1024 then ({ e with width := 11 }, [])
  else if e.tsize = 2048 then ({ e with width := 12 }, [])
  else if e.tsize = 4096 then
    let r := writeCode 256 e
    ({ r.1 with tab := [], tsize := 258, width := 9 }, r.2)
  else (e, [])

/-- The opening CLEAR, "at the start of the first PUSH or FINISH transaction" (R188). -/
def lzwOpening (e : LzwEnc) : LzwEnc × List Byte :=
  if e.lead then
    let r := writeCode 256 e
    ({ r.1 with lead := false }, r.2)
  else (e, [])

/-- Encode, PUSH, per input byte (R189): extend the candidate, or write its code and record the
extended string. -/
def lzwEncByte (b : Byte) (e : LzwEnc) : LzwEnc × List Byte :=
  let ns := e.cand ++ [b]
  if isTabString e.tab ns then ({ e with cand := ns }, [])
  else
    let r := writeCode (tabCode e.tab e.cand) e
    let q := lzwBump { r.1 with tab := r.1.tab ++ [ns], tsize := r.1.tsize + 1, cand := [b] }
    (q.1, r.2 ++ q.2)

/-- Encode, FINISH, first part (R192): the pending candidate, and the entry the decoder will record. -/
def lzwFlushCand (e : LzwEnc) : LzwEnc × List Byte :=
  if e.cand = [] then (e, [])
  else
    let r := writeCode (tabCode e.tab e.cand) e
    let q := lzwBump { r.1 with cand := [], tsize := r.1.tsize + 1 }
    (q.1, r.2 ++ q.2)

/-- Encode, FINISH, second part (R193): EOD, and the last byte padded with 0 bits. -/
def lzwWriteEod (e : LzwEnc) : LzwEnc × List Byte :=
  let r := writeCode 257 e
  if r.1.nbits > 0 then
    ({ r.1 with acc := 0, nbits := 0 },
      r.2 ++ [BitVec.ofNat 8 (r.1.acc * 2 ^ (8 - r.1.nbits))])
  else r

/-- Encode, FINISH, both parts. -/
def lzwEncFinish (e : LzwEnc) : LzwEnc × List Byte :=
  let r := lzwFlushCand e
  let q := lzwWriteEod r.1
  (q.1, r.2 ++ q.2)

end Sys2Proof.Machine
end

