-- ==== Sys2Proof/Machine/PredCore.lean ====
section
/-! DEFINITION. The row rules of the PRED unit (44_predictor.md): the TIFF delta, the five PNG filters, and the
row rule of a unit of work in either direction. -/

namespace Sys2Proof.Machine

/-- The TIFF components of a row (R219): `n` components are left, the next is component `j`; `left`
holds `LEFT[k]`, the raw value of each colour in the preceding sample. What follows the last component
is copied unchanged. -/
def tiffBits (dir : Direction) (bpc colors : Nat) : Nat → Nat → List Nat → List Bool → List Bool
  | 0, _, _, bits => bits
  | n + 1, j, left, bits =>
    let k := j % colors
    let x := natOfBits (bits.take bpc)
    let y :=
      match dir with
      | .enc => (x + 2 ^ bpc - left.getD k 0) % 2 ^ bpc
      | .dec => (x + left.getD k 0) % 2 ^ bpc
    let raw :=
      match dir with
      | .enc => x
      | .dec => y
    bitsOfNat bpc y ++ tiffBits dir bpc colors n (j + 1) (left.set k raw) (bits.drop bpc)

/-- `n = min(L_COLUMNS * L_COLORS, floor(8*m / L_BPC))`, the components of an `m`-byte row (R218). -/
def tiffComponents (l : Latches) (m : Nat) : Nat :=
  min (l.columns.toNat * l.colors.toNat) (8 * m / l.bpc.toNat)

/-- A TIFF row, full or truncated, in either direction (R219, R217). `LEFT` starts as zeros (R44). -/
def tiffRow (l : Latches) (dir : Direction) (row : List Byte) : List Byte :=
  bytesOfBits row.length
    (tiffBits dir l.bpc.toNat l.colors.toNat (tiffComponents l row.length) 0
      (List.replicate l.colors.toNat 0) (bitsOfBytes row))

/-- The tag byte's filter (R100): 0 to 4; every other value is illegal (R230). -/
def filterOfTag (tag : Nat) : Option PngFilter :=
  match tag with
  | 0 => some .none
  | 1 => some .sub
  | 2 => some .up
  | 3 => some .average
  | 4 => some .paeth
  | _ => none

/-- The Paeth predictor (R226): distances on unreduced integers, ties in the order a, b, c. -/
def paeth (a b c : Byte) : Byte :=
  let p : Int := (a.toNat : Int) + b.toNat - c.toNat
  let pa := (p - a.toNat).natAbs
  let pb := (p - b.toNat).natAbs
  let pc := (p - c.toNat).natAbs
  if pa ≤ pb ∧ pa ≤ pc then a
  else if pb ≤ pc then b
  else c

/-- `pred_tag(i)` from the neighbours left, above, above-left (R222 to R226). -/
def pngPredict (f : PngFilter) (a b c : Byte) : Byte :=
  match f with
  | .none => 0#8
  | .sub => a
  | .up => b
  | .average => BitVec.ofNat 8 ((a.toNat + b.toNat) / 2)
  | .paeth => paeth a b c

/-- The byte `bpp` places before index `i` of a row, "else 0" (R221). -/
def backByte (bpp : Nat) (row : List Byte) (i : Nat) : Byte :=
  if bpp ≤ i then row.getD (i - bpp) 0#8 else 0#8

/-- The predicted value of the byte after the raw bytes `done` of a row (R221): its index is
`done.length`. -/
def pngPredictAt (f : PngFilter) (bpp : Nat) (prev done : List Byte) : Byte :=
  pngPredict f (backByte bpp done done.length) (prev.getD done.length 0#8) (backByte bpp prev done.length)

/-- Reconstruction of a row (R227): `done` are the bytes reconstructed, the list the filtered bytes left. -/
def pngRecon (f : PngFilter) (bpp : Nat) (prev : List Byte) : List Byte → List Byte → List Byte
  | done, [] => done
  | done, x :: xs => pngRecon f bpp prev (done ++ [x + pngPredictAt f bpp prev done]) xs

/-- Filtering of a row (R228): `done` are the raw bytes passed, the list the raw bytes left. -/
def pngFilterRow (f : PngFilter) (bpp : Nat) (prev : List Byte) : List Byte → List Byte → List Byte
  | _, [] => []
  | done, x :: xs =>
    (x - pngPredictAt f bpp prev done) :: pngFilterRow f bpp prev (done ++ [x]) xs

/-- PNG decode of the bytes after a legal tag (R227): `PREV` is updated by a full row only (R231, R217). -/
def pngDecodeRow (f : PngFilter) (l : Latches) (prev data : List Byte) : Answer (List Byte) :=
  let recon := pngRecon f l.pixelBytes prev [] data
  .emit (if data.length = l.rowBytes then recon else prev) recon false

/-- A tag of 5 to 255 (R230). -/
def pngBadTag (tag : Byte) : Answer (List Byte) := .raise .pngBadTag (byteSym tag)

/-- PNG decode of one unit of work (R227): its first byte is the tag. -/
def pngDecodeUnit (l : Latches) (prev : List Byte) : List Byte → Answer (List Byte)
  | [] => .emit prev [] false
  | tag :: data =>
    match filterOfTag tag.toNat with
    | some f => pngDecodeRow f l prev data
    | none => pngBadTag tag

/-- `EncTag` (R229): the forced filter, or `L_OPTTAG` for `L_PRED = 15`. -/
def encTag (l : Latches) : Nat :=
  if l.pred = 15#32 then l.opttag.toNat else l.pred.toNat - 10

/-- PNG encode of one row (R228). The checks of START make the tag legal (R33 check 4). -/
def pngEncodeRow (l : Latches) (prev row : List Byte) : Answer (List Byte) :=
  .emit (if row.length = l.rowBytes then row else prev)
    (BitVec.ofNat 8 (encTag l) ::
      pngFilterRow ((filterOfTag (encTag l)).getD .none) l.pixelBytes prev [] row) false

/-- `Row(unit)` (R214): R219 for TIFF, R227 for PNG decode, R228 for PNG encode. The state answered is the
new `PREV`, which the TIFF family does not use (R43). -/
def rowRule (l : Latches) (dir : Direction) (prev unit : List Byte) : Answer (List Byte) :=
  if l.png then
    match dir with
    | .dec => pngDecodeUnit l prev unit
    | .enc => pngEncodeRow l prev unit
  else .emit prev (tiffRow l dir unit) false

end Sys2Proof.Machine
end

