-- ==== Sys2Proof/Machine/Chain.lean ====
section
/-! DEFINITION. Where emitted bytes go: out of the block, or through the second stage of a chain, byte by byte
and in order (45_composition.md, rules R250 to R253); the byte rule of PUSH for every unit (R132). -/

namespace Sys2Proof.Machine

/-- One byte into the LZW encoder, its codes out of the block (R189). -/
def lzwEncFeed (b : Byte) (s : State) : State :=
  match s.codec with
  | some (.lzwEnc e) =>
    let r := lzwEncByte b e
    emitOut r.2 { s with codec := some (.lzwEnc r.1) }
  | _ => s

/-- What the predictor emits: to the LZW encoder in a chained encode (R252), else out of the block. -/
def predSink (bytes : List Byte) (s : State) : State :=
  if s.chain = true ∧ s.dir = .enc then bytes.foldl (fun t b => lzwEncFeed b t) s
  else emitOut bytes s

/-- A row rule's answer: the fault, or the emptied `CUR`, the new `PREV`, and the emission. -/
def rowAnswer (a : Answer (List Byte)) (s : State) : State :=
  match a with
  | .raise cause sym => faultEntry cause sym s
  | .emit prev bytes _ => predSink bytes { s with rows := some { cur := [], prev := prev } }

/-- One byte into the predictor (R214); with no buffers it is the identity (R211). -/
def predByte (x : Byte) (s : State) : State :=
  match s.rows with
  | none => predSink [x] s
  | some r =>
    let cur := r.cur ++ [x]
    if cur.length = s.latch.unitBytes s.dir then
      rowAnswer (rowRule s.latch s.dir r.prev cur) s
    else { s with rows := some { r with cur := cur } }

/-- Bytes into the predictor one by one, until a fault ends the transaction (R251, R266). -/
def predFeed : List Byte → State → State
  | [], s => s
  | x :: xs, s => if s.phase = .active then predFeed xs (predByte x s) else s

/-- PRED, FINISH (R215, R216): a short final row faults when strict, else it is a truncated row (R217). -/
def predFinish (s : State) : State :=
  match s.rows with
  | none => s
  | some r =>
    if r.cur.length = 0 then s
    else if s.latch.strict then faultEntry .predShortRow 0#12 s
    else rowAnswer (rowRule s.latch s.dir r.prev r.cur) s

/-- What the LZW decoder emits: to the predictor in a chained decode (R251), else out of the block. -/
def lzwDecSink (bytes : List Byte) (s : State) : State :=
  if s.chain = true then predFeed bytes s else emitOut bytes s

/-- A code rule's answer: the fault, or the new codec state with `fin`, and the emission. -/
def lzwAnswer (a : Answer LzwDec) (s : State) : State :=
  match a with
  | .raise cause sym => faultEntry cause sym s
  | .emit d bytes term => lzwDecSink bytes { s with codec := some (.lzwDec d), fin := s.fin || term }

/-- LZW decode, per input byte (R178), after the test of `fin`. -/
def lzwDecByte (b : Byte) (d : LzwDec) (s : State) : State :=
  match readCode b d with
  | (none, d') => { s with codec := some (.lzwDec d') }
  | (some code, d') => lzwAnswer (lzwDecodeStep code d') s

/-- What a PUSH does with one byte of its payload (R132): the byte rule of stage 1, its emission through
stage 2 where there is one. Input after a terminator is ignored (R79). -/
def byteStep (b : Byte) (s : State) : State :=
  match s.codec with
  | none => s
  | some (.a85Enc ebuf) =>
    let r := a85EncByte b ebuf
    emitOut r.2 { s with codec := some (.a85Enc r.1) }
  | some (.a85Dec d) => if s.fin then s else applyAnswer Codec.a85Dec (a85DecByte b d) s
  | some .ahxEnc => emitOut (ahxEncByte s.latch.hexup b) s
  | some (.ahxDec d) => if s.fin then s else applyAnswer Codec.ahxDec (ahxDecByte b d) s
  | some (.lzwDec d) => if s.fin then s else lzwDecByte b d s
  | some (.lzwEnc _) => if s.chain then predByte b s else lzwEncFeed b s
  | some .pred => predByte b s

/-- The payload of a PUSH, byte by byte in order (R63); the first fault ends the transaction (R266). -/
def pushBytes : List Byte → State → State
  | [], s => s
  | b :: bs, s => if s.phase = .active then pushBytes bs (byteStep b s) else s

/-- The opening CLEAR, if still owed (R188, R132); nothing in any other invocation. -/
def openStream (s : State) : State :=
  match s.codec with
  | some (.lzwEnc e) =>
    let r := lzwOpening e
    emitOut r.2 { s with codec := some (.lzwEnc r.1) }
  | _ => s

/-- LZW encode, FINISH (R192, R193). -/
def lzwEncFlush (s : State) : State :=
  match s.codec with
  | some (.lzwEnc e) =>
    let r := lzwEncFinish e
    emitOut r.2 { s with codec := some (.lzwEnc r.1) }
  | _ => s

/-- LZW decode, FINISH (R186): the truncation is reported before the missing EOD (R266). -/
def lzwDecFinish (d : LzwDec) (s : State) : State :=
  if s.fin then s
  else if d.nbits > 0 then faultEntry .lzwTrunc 0#12 s
  else faultEntry .lzwNoEod 0#12 s

/-- A stage-2 rule after stage 1, unless stage 1 faulted (R251, R252). -/
def unlessFaulted (f : State → State) (s : State) : State := if s.phase = .active then f s else s

/-- The FINISH rules of the invocation's stages, in order (R133, R251, R252). -/
def finishStages (s : State) : State :=
  match s.codec with
  | none => s
  | some (.a85Enc ebuf) => emitOut (a85EncFinish ebuf) s
  | some (.a85Dec _) => a85DecFinish s
  | some .ahxEnc => emitOut ahxEncFinish s
  | some (.ahxDec d) => ahxDecFinish d s
  | some (.lzwDec d) =>
    if s.chain then unlessFaulted predFinish (lzwDecFinish d s) else lzwDecFinish d s
  | some (.lzwEnc _) =>
    if s.chain then unlessFaulted lzwEncFlush (predFinish (openStream s)) else lzwEncFlush (openStream s)
  | some .pred => predFinish s

end Sys2Proof.Machine
end

