-- ==== Sys2Proof/Machine/Commands.lean ====
section
/-! DEFINITION. The meanings of the twelve command words (40_commands.md). Each is one transaction; the phase
table is R120. -/

namespace Sys2Proof.Machine

/-- START up to the checks (R123): the old codec state is discarded, the descriptor written, the fault
cleared, the parameters latched, `chain` set for LZW with `L_PRED != 1` (R250). -/
def startLatch (unit : CodecUnit) (dir : Direction) (s : State) : State :=
  let t := clearFault (discardCodec s)
  { t with
    unit := unit
    dir := dir
    latch := latchOf s
    chain := unit == .lzw && (latchOf s).pred != 1#32 }

/-- START (R123): after the latching, a failed check faults; else the codec state of the unit is created
and the phase is ACTIVE. It consumes no input and emits nothing. -/
def startWith (unit : CodecUnit) (dir : Direction) (create : Latches → Codec) (s : State) : State :=
  let t := startLatch unit dir s
  if startChecks t.cfg unit dir t.latch then
    respond okWord []
      { t with codec := some (create t.latch), rows := startRows unit t.latch, phase := .active }
  else faultEntry .cfgInvalid 0#12 t

/-- PUSH in phase ACTIVE (R132): the opening CLEAR if owed, every byte of the payload, and the answer `OK`
unless a byte faulted. The payload is consumed. -/
def pushActive (s : State) : State :=
  let t := pushBytes s.inp (openStream { s with out := [] })
  let u := { t with inp := [] }
  if u.phase = .active then respond okWord u.out u else u

/-- FINISH in phase ACTIVE (R133): the end-of-stream rules, then, unless one faulted, phase DONE. -/
def finishActive (s : State) : State :=
  let t := finishStages { s with out := [] }
  if t.phase = .active then respond okWord t.out { discardCodec t with phase := .done } else t

/-- `NOP` (R122): accepted in every phase, changes nothing but `RSP`. -/
def execNop (s : State) : Host.Outcome State Fault Refusal := .next (respond okWord [] s)

/-- `START A85.DEC` (R124). -/
def execStartA85Dec (s : State) : Host.Outcome State Fault Refusal :=
  .next (startWith .a85 .dec (fun _ => .a85Dec { dig := [], tilde := false }) s)

/-- `START A85.ENC` (R125). -/
def execStartA85Enc (s : State) : Host.Outcome State Fault Refusal :=
  .next (startWith .a85 .enc (fun _ => .a85Enc []) s)

/-- `START AHX.DEC` (R126). -/
def execStartAhxDec (s : State) : Host.Outcome State Fault Refusal :=
  .next (startWith .ahx .dec (fun _ => .ahxDec { waiting := false, hi := 0#4 }) s)

/-- `START AHX.ENC` (R127). -/
def execStartAhxEnc (s : State) : Host.Outcome State Fault Refusal :=
  .next (startWith .ahx .enc (fun _ => .ahxEnc) s)

/-- `START LZW.DEC` (R128). -/
def execStartLzwDec (s : State) : Host.Outcome State Fault Refusal :=
  .next (startWith .lzw .dec (fun _ => .lzwDec lzwDecInit) s)

/-- `START LZW.ENC` (R129). -/
def execStartLzwEnc (s : State) : Host.Outcome State Fault Refusal :=
  .next (startWith .lzw .enc (fun l => .lzwEnc (lzwEncInit l.leadclr)) s)

/-- `START PRED.DEC` (R130). -/
def execStartPredDec (s : State) : Host.Outcome State Fault Refusal :=
  .next (startWith .pred .dec (fun _ => .pred) s)

/-- `START PRED.ENC` (R131). -/
def execStartPredEnc (s : State) : Host.Outcome State Fault Refusal :=
  .next (startWith .pred .enc (fun _ => .pred) s)

/-- `PUSH` (R132): rejected outside phase ACTIVE and for a payload longer than `CHUNK_MAX` (R121). -/
def execPush (s : State) : Host.Outcome State Fault Refusal :=
  if s.phase ≠ .active ∨ payloadFits s = false then .next (reject s)
  else
    match s.codec with
    | some _ => .next (pushActive s)
    | none => .fault .codecAbsent

/-- `FINISH` (R133): rejected outside phase ACTIVE (R121). -/
def execFinish (s : State) : Host.Outcome State Fault Refusal :=
  if s.phase ≠ .active then .next (reject s)
  else
    match s.codec with
    | some _ => .next (finishActive s)
    | none => .fault .codecAbsent

/-- `ABORT` (R134): to IDLE from every phase, no end-of-stream rule, the standing fault cleared. -/
def execAbort (s : State) : Host.Outcome State Fault Refusal :=
  .next (respond okWord []
    { clearFault (discardCodec s) with phase := .idle, unit := .a85, dir := .dec, chain := false })

end Sys2Proof.Machine
end

