-- ==== Sys2Proof/Machine/Lzw.lean ====
section
/-! DEFINITION. The meaning of every LZWCODE class (43_lzw.md, rules R178 to R185): one code, already taken from
the input bits by `ReadCode`, run by the LZW decoder, its string sent on as R251 says. -/

namespace Sys2Proof.Machine

/-- An LZW code as an instruction: the rule of its class applied where the LZW decoder is at work; after EOD
nothing is read (R178, R182). Elsewhere no code is fetched (notes/assumptions/6.md). -/
def lzwSymbol (rule : LzwDec → Answer LzwDec) (s : State) : Host.Outcome State Fault Refusal :=
  match s.phase, s.codec with
  | .active, some (.lzwDec d) => if s.fin then .next s else .next (lzwAnswer (rule d) s)
  | _, _ => .refused .outOfContext

/- ---- the rows of the table ---- -/

/-- `LZWCODE.LIT_0x000-0x0FF` (R185). -/
def execLzwcodeLit000to0FF (code : Code) (s : State) : Host.Outcome State Fault Refusal :=
  lzwSymbol (lzwStringCode code) s

/-- `LZWCODE.CLEAR_0x100-0x100` (R181). -/
def execLzwcodeClear100 (s : State) : Host.Outcome State Fault Refusal :=
  lzwSymbol lzwClear s

/-- `LZWCODE.EOD_0x101-0x101` (R182). -/
def execLzwcodeEod101 (s : State) : Host.Outcome State Fault Refusal :=
  lzwSymbol lzwEodCode s

/-- `LZWCODE.REF_0x102-0x103` (R185). -/
def execLzwcodeRef102to103 (code : Code) (s : State) : Host.Outcome State Fault Refusal :=
  lzwSymbol (lzwStringCode code) s

/-- `LZWCODE.REF_0x104-0x107` (R185). -/
def execLzwcodeRef104to107 (code : Code) (s : State) : Host.Outcome State Fault Refusal :=
  lzwSymbol (lzwStringCode code) s

/-- `LZWCODE.REF_0x108-0x10F` (R185). -/
def execLzwcodeRef108to10F (code : Code) (s : State) : Host.Outcome State Fault Refusal :=
  lzwSymbol (lzwStringCode code) s

/-- `LZWCODE.REF_0x110-0x11F` (R185). -/
def execLzwcodeRef110to11F (code : Code) (s : State) : Host.Outcome State Fault Refusal :=
  lzwSymbol (lzwStringCode code) s

/-- `LZWCODE.REF_0x120-0x13F` (R185). -/
def execLzwcodeRef120to13F (code : Code) (s : State) : Host.Outcome State Fault Refusal :=
  lzwSymbol (lzwStringCode code) s

/-- `LZWCODE.REF_0x140-0x17F` (R185). -/
def execLzwcodeRef140to17F (code : Code) (s : State) : Host.Outcome State Fault Refusal :=
  lzwSymbol (lzwStringCode code) s

/-- `LZWCODE.REF_0x180-0x1FF` (R185). -/
def execLzwcodeRef180to1FF (code : Code) (s : State) : Host.Outcome State Fault Refusal :=
  lzwSymbol (lzwStringCode code) s

/-- `LZWCODE.REF_0x200-0x3FF` (R185). -/
def execLzwcodeRef200to3FF (code : Code) (s : State) : Host.Outcome State Fault Refusal :=
  lzwSymbol (lzwStringCode code) s

/-- `LZWCODE.REF_0x400-0x7FF` (R185). -/
def execLzwcodeRef400to7FF (code : Code) (s : State) : Host.Outcome State Fault Refusal :=
  lzwSymbol (lzwStringCode code) s

/-- `LZWCODE.REF_0x800-0xFFF` (R185). -/
def execLzwcodeRef800toFFF (code : Code) (s : State) : Host.Outcome State Fault Refusal :=
  lzwSymbol (lzwStringCode code) s

end Sys2Proof.Machine
end

