-- ==== Sys2Proof/Machine/Pred.lean ====
section
/-! DEFINITION. The meaning of every PNGTAG class (44_predictor.md, rules R222 to R230): the tag that opens a
unit of work. The unit is in `CUR` when its tag is obeyed: complete (R214), or short at FINISH (R216). -/

namespace Sys2Proof.Machine

/-- A PNG tag as an instruction: the unit in `CUR` that opens with it leaves as its row (R227), where a PNG
decode is at work. Elsewhere no tag is fetched (notes/assumptions/6.md and 12.md). -/
def pngSymbol (tag : Byte) (rule : Latches → List Byte → List Byte → Answer (List Byte)) (s : State) :
    Host.Outcome State Fault Refusal :=
  match s.phase, s.dir, s.latch.png, s.rows with
  | .active, .dec, true, some r =>
    match r.cur with
    | t :: data => if t = tag then .next (rowAnswer (rule s.latch r.prev data) s) else .refused .outOfContext
    | [] => .refused .outOfContext
  | _, _, _, _ => .refused .outOfContext

/- ---- the rows of the table ---- -/

/-- `PNGTAG.NONE_0x00-0x00` (R222). -/
def execPngtagNone00 (s : State) : Host.Outcome State Fault Refusal :=
  pngSymbol 0x00#8 (pngDecodeRow .none) s

/-- `PNGTAG.SUB_0x01-0x01` (R223). -/
def execPngtagSub01 (s : State) : Host.Outcome State Fault Refusal :=
  pngSymbol 0x01#8 (pngDecodeRow .sub) s

/-- `PNGTAG.UP_0x02-0x02` (R224). -/
def execPngtagUp02 (s : State) : Host.Outcome State Fault Refusal :=
  pngSymbol 0x02#8 (pngDecodeRow .up) s

/-- `PNGTAG.AVG_0x03-0x03` (R225). -/
def execPngtagAvg03 (s : State) : Host.Outcome State Fault Refusal :=
  pngSymbol 0x03#8 (pngDecodeRow .average) s

/-- `PNGTAG.PAETH_0x04-0x04` (R226). -/
def execPngtagPaeth04 (s : State) : Host.Outcome State Fault Refusal :=
  pngSymbol 0x04#8 (pngDecodeRow .paeth) s

/-- `PNGTAG.BAD_0x05-0x05` (R230). -/
def execPngtagBad05 (s : State) : Host.Outcome State Fault Refusal :=
  pngSymbol 0x05#8 (fun _ _ _ => pngBadTag 0x05#8) s

/-- `PNGTAG.BAD_0x06-0x07` (R230). -/
def execPngtagBad06to07 (tag : Byte) (s : State) : Host.Outcome State Fault Refusal :=
  pngSymbol tag (fun _ _ _ => pngBadTag tag) s

/-- `PNGTAG.BAD_0x08-0x0F` (R230). -/
def execPngtagBad08to0F (tag : Byte) (s : State) : Host.Outcome State Fault Refusal :=
  pngSymbol tag (fun _ _ _ => pngBadTag tag) s

/-- `PNGTAG.BAD_0x10-0x1F` (R230). -/
def execPngtagBad10to1F (tag : Byte) (s : State) : Host.Outcome State Fault Refusal :=
  pngSymbol tag (fun _ _ _ => pngBadTag tag) s

/-- `PNGTAG.BAD_0x20-0x3F` (R230). -/
def execPngtagBad20to3F (tag : Byte) (s : State) : Host.Outcome State Fault Refusal :=
  pngSymbol tag (fun _ _ _ => pngBadTag tag) s

/-- `PNGTAG.BAD_0x40-0x7F` (R230). -/
def execPngtagBad40to7F (tag : Byte) (s : State) : Host.Outcome State Fault Refusal :=
  pngSymbol tag (fun _ _ _ => pngBadTag tag) s

/-- `PNGTAG.BAD_0x80-0xFF` (R230). -/
def execPngtagBad80toFF (tag : Byte) (s : State) : Host.Outcome State Fault Refusal :=
  pngSymbol tag (fun _ _ _ => pngBadTag tag) s

end Sys2Proof.Machine
end

