-- ==== Sys2Proof/Machine/Dispatch.lean ====
section
/-! DEFINITION. One arm per instruction: a direct call of its meaning. -/

namespace Sys2Proof.Machine

def exec (i : Instr) (s : State) : Host.Outcome State Fault Refusal :=
  match i with
  | .nop => Sys2Proof.Machine.execNop s
  | .startA85Dec => Sys2Proof.Machine.execStartA85Dec s
  | .startA85Enc => Sys2Proof.Machine.execStartA85Enc s
  | .startAhxDec => Sys2Proof.Machine.execStartAhxDec s
  | .startAhxEnc => Sys2Proof.Machine.execStartAhxEnc s
  | .startLzwDec => Sys2Proof.Machine.execStartLzwDec s
  | .startLzwEnc => Sys2Proof.Machine.execStartLzwEnc s
  | .startPredDec => Sys2Proof.Machine.execStartPredDec s
  | .startPredEnc => Sys2Proof.Machine.execStartPredEnc s
  | .push => Sys2Proof.Machine.execPush s
  | .finish => Sys2Proof.Machine.execFinish s
  | .abort => Sys2Proof.Machine.execAbort s
  | .a85chWs00 => Sys2Proof.Machine.execA85chWs00 s
  | .a85chWs09 => Sys2Proof.Machine.execA85chWs09 s
  | .a85chWs0A => Sys2Proof.Machine.execA85chWs0A s
  | .a85chWs0Cto0D ch => Sys2Proof.Machine.execA85chWs0Cto0D ch s
  | .a85chWs20 => Sys2Proof.Machine.execA85chWs20 s
  | .a85chDigit21 => Sys2Proof.Machine.execA85chDigit21 s
  | .a85chDigit22to23 ch => Sys2Proof.Machine.execA85chDigit22to23 ch s
  | .a85chDigit24to27 ch => Sys2Proof.Machine.execA85chDigit24to27 ch s
  | .a85chDigit28to2F ch => Sys2Proof.Machine.execA85chDigit28to2F ch s
  | .a85chDigit30to3F ch => Sys2Proof.Machine.execA85chDigit30to3F ch s
  | .a85chDigit40to5F ch => Sys2Proof.Machine.execA85chDigit40to5F ch s
  | .a85chDigit60to6F ch => Sys2Proof.Machine.execA85chDigit60to6F ch s
  | .a85chDigit70to73 ch => Sys2Proof.Machine.execA85chDigit70to73 ch s
  | .a85chDigit74to75 ch => Sys2Proof.Machine.execA85chDigit74to75 ch s
  | .a85chZ7A => Sys2Proof.Machine.execA85chZ7A s
  | .a85chTilde7E => Sys2Proof.Machine.execA85chTilde7E s
  | .a85chBad01 => Sys2Proof.Machine.execA85chBad01 s
  | .a85chBad02to03 ch => Sys2Proof.Machine.execA85chBad02to03 ch s
  | .a85chBad04to07 ch => Sys2Proof.Machine.execA85chBad04to07 ch s
  | .a85chBad08 => Sys2Proof.Machine.execA85chBad08 s
  | .a85chBad0B => Sys2Proof.Machine.execA85chBad0B s
  | .a85chBad0Eto0F ch => Sys2Proof.Machine.execA85chBad0Eto0F ch s
  | .a85chBad10to1F ch => Sys2Proof.Machine.execA85chBad10to1F ch s
  | .a85chBad76to77 ch => Sys2Proof.Machine.execA85chBad76to77 ch s
  | .a85chBad78to79 ch => Sys2Proof.Machine.execA85chBad78to79 ch s
  | .a85chBad7B => Sys2Proof.Machine.execA85chBad7B s
  | .a85chBad7Cto7D ch => Sys2Proof.Machine.execA85chBad7Cto7D ch s
  | .a85chBad7F => Sys2Proof.Machine.execA85chBad7F s
  | .a85chBad80toFF ch => Sys2Proof.Machine.execA85chBad80toFF ch s
  | .a85chTWs00 => Sys2Proof.Machine.execA85chTWs00 s
  | .a85chTWs09 => Sys2Proof.Machine.execA85chTWs09 s
  | .a85chTWs0A => Sys2Proof.Machine.execA85chTWs0A s
  | .a85chTWs0Cto0D ch => Sys2Proof.Machine.execA85chTWs0Cto0D ch s
  | .a85chTWs20 => Sys2Proof.Machine.execA85chTWs20 s
  | .a85chTGt3E => Sys2Proof.Machine.execA85chTGt3E s
  | .a85chTBad01 => Sys2Proof.Machine.execA85chTBad01 s
  | .a85chTBad02to03 ch => Sys2Proof.Machine.execA85chTBad02to03 ch s
  | .a85chTBad04to07 ch => Sys2Proof.Machine.execA85chTBad04to07 ch s
  | .a85chTBad08 => Sys2Proof.Machine.execA85chTBad08 s
  | .a85chTBad0B => Sys2Proof.Machine.execA85chTBad0B s
  | .a85chTBad0Eto0F ch => Sys2Proof.Machine.execA85chTBad0Eto0F ch s
  | .a85chTBad10to1F ch => Sys2Proof.Machine.execA85chTBad10to1F ch s
  | .a85chTBad21 => Sys2Proof.Machine.execA85chTBad21 s
  | .a85chTBad22to23 ch => Sys2Proof.Machine.execA85chTBad22to23 ch s
  | .a85chTBad24to27 ch => Sys2Proof.Machine.execA85chTBad24to27 ch s
  | .a85chTBad28to2F ch => Sys2Proof.Machine.execA85chTBad28to2F ch s
  | .a85chTBad30to37 ch => Sys2Proof.Machine.execA85chTBad30to37 ch s
  | .a85chTBad38to3B ch => Sys2Proof.Machine.execA85chTBad38to3B ch s
  | .a85chTBad3Cto3D ch => Sys2Proof.Machine.execA85chTBad3Cto3D ch s
  | .a85chTBad3F => Sys2Proof.Machine.execA85chTBad3F s
  | .a85chTBad40to7F ch => Sys2Proof.Machine.execA85chTBad40to7F ch s
  | .a85chTBad80toFF ch => Sys2Proof.Machine.execA85chTBad80toFF ch s
  | .ahxchWs00 => Sys2Proof.Machine.execAhxchWs00 s
  | .ahxchWs09 => Sys2Proof.Machine.execAhxchWs09 s
  | .ahxchWs0A => Sys2Proof.Machine.execAhxchWs0A s
  | .ahxchWs0Cto0D ch => Sys2Proof.Machine.execAhxchWs0Cto0D ch s
  | .ahxchWs20 => Sys2Proof.Machine.execAhxchWs20 s
  | .ahxchHex30to37 ch => Sys2Proof.Machine.execAhxchHex30to37 ch s
  | .ahxchHex38to39 ch => Sys2Proof.Machine.execAhxchHex38to39 ch s
  | .ahxchHex41 => Sys2Proof.Machine.execAhxchHex41 s
  | .ahxchHex42to43 ch => Sys2Proof.Machine.execAhxchHex42to43 ch s
  | .ahxchHex44to45 ch => Sys2Proof.Machine.execAhxchHex44to45 ch s
  | .ahxchHex46 => Sys2Proof.Machine.execAhxchHex46 s
  | .ahxchHex61 => Sys2Proof.Machine.execAhxchHex61 s
  | .ahxchHex62to63 ch => Sys2Proof.Machine.execAhxchHex62to63 ch s
  | .ahxchHex64to65 ch => Sys2Proof.Machine.execAhxchHex64to65 ch s
  | .ahxchHex66 => Sys2Proof.Machine.execAhxchHex66 s
  | .ahxchGt3E => Sys2Proof.Machine.execAhxchGt3E s
  | .ahxchBad01 => Sys2Proof.Machine.execAhxchBad01 s
  | .ahxchBad02to03 ch => Sys2Proof.Machine.execAhxchBad02to03 ch s
  | .ahxchBad04to07 ch => Sys2Proof.Machine.execAhxchBad04to07 ch s
  | .ahxchBad08 => Sys2Proof.Machine.execAhxchBad08 s
  | .ahxchBad0B => Sys2Proof.Machine.execAhxchBad0B s
  | .ahxchBad0Eto0F ch => Sys2Proof.Machine.execAhxchBad0Eto0F ch s
  | .ahxchBad10to1F ch => Sys2Proof.Machine.execAhxchBad10to1F ch s
  | .ahxchBad21 => Sys2Proof.Machine.execAhxchBad21 s
  | .ahxchBad22to23 ch => Sys2Proof.Machine.execAhxchBad22to23 ch s
  | .ahxchBad24to27 ch => Sys2Proof.Machine.execAhxchBad24to27 ch s
  | .ahxchBad28to2F ch => Sys2Proof.Machine.execAhxchBad28to2F ch s
  | .ahxchBad3Ato3B ch => Sys2Proof.Machine.execAhxchBad3Ato3B ch s
  | .ahxchBad3Cto3D ch => Sys2Proof.Machine.execAhxchBad3Cto3D ch s
  | .ahxchBad3F => Sys2Proof.Machine.execAhxchBad3F s
  | .ahxchBad40 => Sys2Proof.Machine.execAhxchBad40 s
  | .ahxchBad47 => Sys2Proof.Machine.execAhxchBad47 s
  | .ahxchBad48to4F ch => Sys2Proof.Machine.execAhxchBad48to4F ch s
  | .ahxchBad50to5F ch => Sys2Proof.Machine.execAhxchBad50to5F ch s
  | .ahxchBad60 => Sys2Proof.Machine.execAhxchBad60 s
  | .ahxchBad67 => Sys2Proof.Machine.execAhxchBad67 s
  | .ahxchBad68to6F ch => Sys2Proof.Machine.execAhxchBad68to6F ch s
  | .ahxchBad70to7F ch => Sys2Proof.Machine.execAhxchBad70to7F ch s
  | .ahxchBad80toFF ch => Sys2Proof.Machine.execAhxchBad80toFF ch s
  | .lzwcodeLit000to0FF code => Sys2Proof.Machine.execLzwcodeLit000to0FF code s
  | .lzwcodeClear100 => Sys2Proof.Machine.execLzwcodeClear100 s
  | .lzwcodeEod101 => Sys2Proof.Machine.execLzwcodeEod101 s
  | .lzwcodeRef102to103 code => Sys2Proof.Machine.execLzwcodeRef102to103 code s
  | .lzwcodeRef104to107 code => Sys2Proof.Machine.execLzwcodeRef104to107 code s
  | .lzwcodeRef108to10F code => Sys2Proof.Machine.execLzwcodeRef108to10F code s
  | .lzwcodeRef110to11F code => Sys2Proof.Machine.execLzwcodeRef110to11F code s
  | .lzwcodeRef120to13F code => Sys2Proof.Machine.execLzwcodeRef120to13F code s
  | .lzwcodeRef140to17F code => Sys2Proof.Machine.execLzwcodeRef140to17F code s
  | .lzwcodeRef180to1FF code => Sys2Proof.Machine.execLzwcodeRef180to1FF code s
  | .lzwcodeRef200to3FF code => Sys2Proof.Machine.execLzwcodeRef200to3FF code s
  | .lzwcodeRef400to7FF code => Sys2Proof.Machine.execLzwcodeRef400to7FF code s
  | .lzwcodeRef800toFFF code => Sys2Proof.Machine.execLzwcodeRef800toFFF code s
  | .pngtagNone00 => Sys2Proof.Machine.execPngtagNone00 s
  | .pngtagSub01 => Sys2Proof.Machine.execPngtagSub01 s
  | .pngtagUp02 => Sys2Proof.Machine.execPngtagUp02 s
  | .pngtagAvg03 => Sys2Proof.Machine.execPngtagAvg03 s
  | .pngtagPaeth04 => Sys2Proof.Machine.execPngtagPaeth04 s
  | .pngtagBad05 => Sys2Proof.Machine.execPngtagBad05 s
  | .pngtagBad06to07 tag => Sys2Proof.Machine.execPngtagBad06to07 tag s
  | .pngtagBad08to0F tag => Sys2Proof.Machine.execPngtagBad08to0F tag s
  | .pngtagBad10to1F tag => Sys2Proof.Machine.execPngtagBad10to1F tag s
  | .pngtagBad20to3F tag => Sys2Proof.Machine.execPngtagBad20to3F tag s
  | .pngtagBad40to7F tag => Sys2Proof.Machine.execPngtagBad40to7F tag s
  | .pngtagBad80toFF tag => Sys2Proof.Machine.execPngtagBad80toFF tag s

end Sys2Proof.Machine
end

