-- ==== Sys2Proof/Machine/Port.lean ====
section
/-! DEFINITION. The ports (rules R21, R22, R61 and R290): what a step takes from the host, and how a word of the
table is put where the next step takes it (notes/assumptions/1.md and 8.md). -/

namespace Sys2Proof.Machine

/-- Nothing pending: the block "waits ... and does nothing" (R292). -/
def idleStep (s : State) : State := s

/-- The command a write at 0x00 issues (R22): decoded from the 32 bits written. -/
def fetchCommand (value : Word) : Option Instr := decode (.cmd value)

/-- The host presents a payload with the command (R22, R61), and its entry is taken from the port. -/
def present (payload : List Byte) (rest : List PortOp) (s : State) : State :=
  { s with inp := payload, port := rest }

/-- A register write that issues no command (R21); an unaligned one does not exist on the port. -/
def writeAccess (offset : Nat) (value : Word) (s : State) : Host.Outcome State Fault Refusal :=
  if offset % 4 = 0 then .next (writeRegister offset value s) else .refused .unalignedAccess

/-- A register read (R21): "A register read has no side effect" (R74) but the value returned. -/
def readAccess (offset : Nat) (s : State) : Host.Outcome State Fault Refusal :=
  if offset % 4 = 0 then .next { s with rdata := readRegister offset s } else .refused .unalignedAccess

/-- The state right after a START of a decoder, with its codec state given. -/
def decoding (unit : CodecUnit) (l : Latches) (codec : Codec) (rows : Option Rows) (s : State) : State :=
  { s with
    phase := .active, unit := unit, dir := .dec, chain := false, fin := false
    errkind := .noError, errinfo := 0#32, latch := l, codec := some codec, rows := rows }

/-- The latches START takes from the parameter registers of reset, but `L_PRED` (R33, R47). -/
def fetchLatches (pred : Word) : Latches := { latchOf State.reset with pred := pred }

/-- The table size in whose width the code `c` can arrive and, where it is a recorded string's code, be
valid: 258 for the codes below, else `c` itself, at most 4094 (R179, R184). -/
def fetchTableSize (c : Nat) : Nat := if c < 258 then 258 else min c 4094

/-- An LZW decoder that has read all but the last 8 bits of the code `c`; its recorded strings are those
of a stream of zero literals (R185). -/
def fetchDecoder (c : Nat) : LzwDec :=
  let t := fetchTableSize c
  { tab := List.replicate (t - 258) [0#8, 0#8]
    tsize := t
    width := widthDec t
    acc := c / 256
    nbits := widthDec t - 8
    last := if c < 258 then none else some 0#12 }

/-- The encoded instruction put where the next step takes it: a command word as the host's next write to
`CMD`; a symbol as the payload of the host's next PUSH, with the decoder at work that reads its format. -/
def withFetch (e : Enc) (s : State) : State :=
  match e with
  | .cmd w => { s with port := .write 0 w [] :: s.port }
  | .a85ch ch =>
    { decoding .a85 (fetchLatches 1#32) (.a85Dec { dig := [], tilde := false }) none s with
      port := .write 0 2#32 [ch] :: s.port }
  | .a85chT ch =>
    { decoding .a85 (fetchLatches 1#32) (.a85Dec { dig := [], tilde := true }) none s with
      port := .write 0 2#32 [ch] :: s.port }
  | .ahxch ch =>
    { decoding .ahx (fetchLatches 1#32) (.ahxDec { waiting := false, hi := 0#4 }) none s with
      port := .write 0 2#32 [ch] :: s.port }
  | .lzwcode c =>
    { decoding .lzw (fetchLatches 1#32) (.lzwDec (fetchDecoder c.toNat)) none s with
      port := .write 0 2#32 [c.setWidth 8] :: s.port }
  | .pngtag tag =>
    { decoding .pred (fetchLatches 10#32) .pred (some { cur := [], prev := [0#8] }) s with
      port := .write 0 2#32 [tag, 0#8] :: s.port }

end Sys2Proof.Machine
end

