-- ==== Sys2Proof/Machine/Step.lean ====
section
/-! DEFINITION. One step: one transaction or one register access, the oldest the host has pending (rule R8 of
00_scope.md). -/

namespace Sys2Proof.Machine

/-- The step. A write at 0x00 issues a command (R22): the instruction it decodes to, or a rejection when the
word is illegal (R93). -/
def step (s : State) : Host.Outcome State Fault Refusal :=
  match s.port with
  | [] => .next (idleStep s)
  | .write offset value payload :: rest =>
    if offset = 0 then
      match fetchCommand value with
      | some i => exec i (present payload rest s)
      | none => .next (reject (present payload rest s))
    else writeAccess offset value { s with port := rest }
  | .read offset :: rest => readAccess offset { s with port := rest }
  | .reset :: rest => .next (resetBlock { s with port := rest })

/-- `s` with a word of spec/opcode_table.json where the next step takes its instruction
(notes/assumptions/8.md). -/
def State.withFetchWord (s : State) (nbits w : Nat) : State :=
  match tableEnc nbits w with
  | some e => withFetch e s
  | none => s

end Sys2Proof.Machine
end

