-- ==== Sys2Proof/Safety.lean ====
section
/-! DEFINITION. The terms claims use: host scripts and what they answer (R105, R106, R135, R136), and the
invariant between transactions (R46, with R23, R30, R32, R35, R43). -/

namespace Sys2Proof.Machine

/-- The host issues a command word with no payload (R105). -/
def cmdOp (w : Word) : PortOp := .write 0 w []

/-- `START <UNIT>.<DIR>` (R92, R105): bits 3:0 are 1, `UNIT` is bits 6:4, `DIR` is bit 7. -/
def startOp (unit : CodecUnit) (dir : Direction) : PortOp :=
  cmdOp (0#24 ++ dir.code ++ unit.code ++ 1#4)

/-- `PUSH <bytes>` (R105). -/
def pushOp (bytes : List Byte) : PortOp := .write 0 2#32 bytes

/-- `FINISH` (R105). -/
def finishOp : PortOp := cmdOp 3#32

/-- `DEFAULTS` (R106). -/
def defaultsOps : List PortOp :=
  [.write 0x10 1#32 [], .write 0x14 1#32 [], .write 0x18 8#32 [], .write 0x1C 1#32 [], .write 0x20 0x44#32 []]

/-- START, one PUSH per chunk, FINISH (R136); with one chunk it is `RUN` (R106). -/
def invocation (unit : CodecUnit) (dir : Direction) (chunks : List (List Byte)) : List PortOp :=
  startOp unit dir :: chunks.map pushOp ++ [finishOp]

/-- Whether a port operation issues a command, and so is answered by a response (R135). -/
def PortOp.isCommand : PortOp → Bool
  | .write offset _ _ => offset == 0
  | .read _ => false
  | .reset => false

/-- A response: its word and its payload (R62, R94). -/
structure Response where
  word : Word
  payload : List Byte
  deriving DecidableEq, Repr

/-- A script run from a state, one step per operation (R8, R76): the state after it and the responses of
its commands, in order (R135); `none` if a step stopped. -/
def runScript : List PortOp → State → Option (State × List Response)
  | [], s => some (s, [])
  | op :: ops, s =>
    match step { s with port := [op] } with
    | .next t =>
      match runScript ops t with
      | some (u, rs) => some (u, if op.isCommand then { word := t.rsp, payload := t.out } :: rs else rs)
      | none => none
    | _ => none

/-- The concatenation of the output payloads (R62, R136). -/
def delivered (rs : List Response) : List Byte := rs.flatMap Response.payload

/-- The first response word that is not `OK`, or `OK`: the outcome of an invocation (R66). -/
def verdict (rs : List Response) : Word := ((rs.map Response.word).find? (fun w => w != okWord)).getD okWord

/-- What an invocation over the chunks gives from a state (R136): its verdict, and its result when that
is `OK`. -/
def outcome (unit : CodecUnit) (dir : Direction) (chunks : List (List Byte)) (s : State) :
    Option (Word × List Byte) :=
  match runScript (invocation unit dir chunks) s with
  | some (_, rs) => some (verdict rs, if verdict rs = okWord then delivered rs else [])
  | none => none

/-- The result of `RUN <UNIT>.<DIR> <bytes>` when every response is `OK` (R106, R136). -/
def transcode (unit : CodecUnit) (dir : Direction) (bytes : List Byte) (s : State) : Option (List Byte) :=
  match outcome unit dir [bytes] s with
  | some (w, out) => if w = okWord then some out else none
  | none => none

/-- The payload presented is within `CHUNK_MAX` (R5, R132). -/
def PayloadFits (s : State) : Prop := ∀ m, s.cfg.chunkMax = some m → s.inp.length ≤ m

/-- Every payload of a cutting is within `CHUNK_MAX` (R5, R132). -/
def PayloadsFit (chunks : List (List Byte)) (s : State) : Prop :=
  ∀ m, s.cfg.chunkMax = some m → ∀ p ∈ chunks, p.length ≤ m

/-- `out` is what the unit makes of `b`, `encode(b)` or `decode(b)` (R136): however `b` is cut into payloads
the block accepts, every response is `OK` and the output payloads join to `out`. -/
def Codes (unit : CodecUnit) (dir : Direction) (s : State) (b out : List Byte) : Prop :=
  ∀ chunks : List (List Byte), chunks.flatten = b → PayloadsFit chunks s →
    outcome unit dir chunks s = some (okWord, out)

/-- The code `c` has a string in `TAB` (R40). -/
def codeMapped (tab : List (List Byte)) (c : Nat) : Prop :=
  c < 256 ∨ 258 ≤ c ∧ c < 258 + tab.length

/-- A85 decode state between transactions (R37, R46). -/
def A85Dec.Ok (d : A85Dec) (fin : Bool) : Prop :=
  d.dig.length ≤ 4 ∧ (∀ x ∈ d.dig, x ≤ 84) ∧ (fin = true → d.dig = [] ∧ d.tilde = false)

/-- AHX decode state between transactions (R39, R46). -/
def AhxDec.Ok (d : AhxDec) (fin : Bool) : Prop :=
  (d.waiting = false → d.hi = 0#4) ∧ (fin = true → d.waiting = false)

/-- LZW decode state between transactions (R40, R41, R46). -/
def LzwDec.Ok (d : LzwDec) (fin : Bool) : Prop :=
  (∀ s ∈ d.tab, 2 ≤ s.length) ∧
  d.tsize = 258 + d.tab.length ∧ d.tsize ≤ 4095 ∧ d.width = widthDec d.tsize ∧
  d.acc < 2 ^ d.nbits ∧ (fin = false → d.nbits < d.width) ∧ (fin = true → d.nbits = 0) ∧
  (∀ c, d.last = some c → codeMapped d.tab c.toNat)

/-- LZW encode state between transactions (R40, R42, R46): no string is recorded twice, and while the
opening CLEAR is owed nothing has been written. -/
def LzwEnc.Ok (e : LzwEnc) : Prop :=
  (∀ s ∈ e.tab, 2 ≤ s.length) ∧ e.tab.Nodup ∧
  e.tsize = 258 + e.tab.length ∧ e.tsize ≤ 4095 ∧ e.width = widthEnc e.tsize ∧
  e.acc < 2 ^ e.nbits ∧ e.nbits ≤ 7 ∧
  (e.cand = [] ∨ isTabString e.tab e.cand = true) ∧
  (e.lead = true → e = lzwEncInit true)

/-- The codec state of the unit and direction it belongs to, well-formed (R35 to R42, R46). -/
def Codec.Ok (c : Codec) (unit : CodecUnit) (dir : Direction) (fin : Bool) : Prop :=
  match c with
  | .a85Dec d => unit = .a85 ∧ dir = .dec ∧ d.Ok fin
  | .a85Enc ebuf => unit = .a85 ∧ dir = .enc ∧ ebuf.length ≤ 3
  | .ahxDec d => unit = .ahx ∧ dir = .dec ∧ d.Ok fin
  | .ahxEnc => unit = .ahx ∧ dir = .enc
  | .lzwDec d => unit = .lzw ∧ dir = .dec ∧ d.Ok fin
  | .lzwEnc e => unit = .lzw ∧ dir = .enc ∧ e.Ok
  | .pred => unit = .pred

/-- The predictor's buffers between transactions (R43, R46). -/
def Rows.Ok (r : Rows) (l : Latches) (dir : Direction) : Prop :=
  r.cur.length < l.unitBytes dir ∧ r.prev.length = l.rowBytes

/-- What holds between transactions, in every phase. -/
structure Inv (s : State) : Prop where
  /-- The reserved bits of `CTRL` read 0 (R30). -/
  ctrl_reserved : s.ctrl &&& ~~~ctrlMask = 0#32
  /-- The codec state exists in phase ACTIVE only (R35). -/
  codec_active : s.phase = .active ↔ s.codec ≠ none
  /-- The predictor's buffers exist only in an invocation (R35, R43). -/
  rows_active : s.codec = none → s.rows = none
  /-- `ERRKIND` is "non-zero exactly when `PHASE` = ERROR" (R23). -/
  errkind_error : s.phase = .error ↔ s.errkind ≠ .noError
  /-- `ERRINFO` is 0 when no fault stands (R24). -/
  errinfo_clear : s.phase ≠ .error → s.errinfo = 0#32
  /-- A standing fault has a cause of the table, its kind in `ERRKIND` (R261, R268). -/
  errinfo_cause : s.phase = .error →
    ∃ cause sym, cause ≠ .cmdIllegal ∧ s.errkind = cause.kind ∧ s.errinfo = errinfoWord cause sym
  /-- `UNIT`, `DIR`, `CHAIN` and `FIN` are 0 after reset and after ABORT (R23, R32). -/
  idle_clear : s.phase = .idle → s.unit = .a85 ∧ s.dir = .dec ∧ s.chain = false ∧ s.fin = false
  /-- `FIN` is "always 0 for an encoder and for PRED alone" (R23). -/
  fin_decoder : s.fin = true → s.dir = .dec ∧ s.unit ≠ .pred
  /-- Only LZW chains (R250). -/
  chain_lzw : s.chain = true → s.unit = .lzw
  /-- The codec state is that of the selected unit and well-formed (R35, R46). -/
  codec_ok : ∀ c, s.codec = some c → c.Ok s.unit s.dir s.fin
  /-- The latches passed the checks of START (R33), and `chain` is as R250 says. -/
  latch_ok : s.phase = .active →
    startChecks s.cfg s.unit s.dir s.latch = true ∧ s.chain = (s.unit == .lzw && s.latch.pred != 1#32)
  /-- The buffers are present exactly when the predictor works (R43), and well-formed (R46). -/
  rows_ok : s.phase = .active →
    (s.rows.isSome = predictorOn s.unit s.latch) ∧ ∀ r, s.rows = some r → r.Ok s.latch s.dir

/-- The A85 decoder is at work and has not seen its terminator (R96, R143). -/
def A85Decoding (s : State) (d : A85Dec) : Prop :=
  s.phase = .active ∧ s.codec = some (.a85Dec d) ∧ s.fin = false

/-- The AHX decoder is at work and has not seen its terminator (R98, R163). -/
def AhxDecoding (s : State) (d : AhxDec) : Prop :=
  s.phase = .active ∧ s.codec = some (.ahxDec d) ∧ s.fin = false

/-- The LZW decoder is at work and has not seen EOD (R99, R178). -/
def LzwDecoding (s : State) (d : LzwDec) : Prop :=
  s.phase = .active ∧ s.codec = some (.lzwDec d) ∧ s.fin = false

/-- A PNG decode is at work and the unit in `CUR` is a tag and its data (R214, R227). -/
def PngDecoding (s : State) (tag : Byte) (data prev : List Byte) : Prop :=
  s.phase = .active ∧ s.dir = .dec ∧ 10 ≤ s.latch.pred.toNat ∧
    s.rows = some { cur := tag :: data, prev := prev }

/-- The START of a unit and direction (R92). -/
def startInstr : CodecUnit → Direction → Instr
  | .a85, .dec => .startA85Dec
  | .a85, .enc => .startA85Enc
  | .ahx, .dec => .startAhxDec
  | .ahx, .enc => .startAhxEnc
  | .lzw, .dec => .startLzwDec
  | .lzw, .enc => .startLzwEnc
  | .pred, .dec => .startPredDec
  | .pred, .enc => .startPredEnc

/-- The codec state each START creates (R124 to R131), written from those rules. -/
def createdCodec : CodecUnit → Direction → Latches → Codec
  | .a85, .dec, _ => .a85Dec { dig := [], tilde := false }
  | .a85, .enc, _ => .a85Enc []
  | .ahx, .dec, _ => .ahxDec { waiting := false, hi := 0#4 }
  | .ahx, .enc, _ => .ahxEnc
  | .lzw, .dec, _ => .lzwDec { tab := [], tsize := 258, width := 9, acc := 0, nbits := 0, last := none }
  | .lzw, .enc, l =>
    .lzwEnc { tab := [], tsize := 258, width := 9, cand := [], acc := 0, nbits := 0, lead := l.leadclr }
  | .pred, _, _ => .pred

/-- The predictor stage is attached and `L_PRED` is not 1 (R33). -/
def PredictorWorks (unit : CodecUnit) (l : Latches) : Prop :=
  (unit = .pred ∨ unit = .lzw) ∧ l.pred.toNat ≠ 1

/-- The checks of START, written from R33. -/
def ParametersLegal (cfg : Config) (unit : CodecUnit) (dir : Direction) (l : Latches) : Prop :=
  (unit = .lzw ∨ unit = .pred → l.pred.toNat ∈ [1, 2, 10, 11, 12, 13, 14, 15]) ∧
  (PredictorWorks unit l →
    1 ≤ l.colors.toNat ∧ 1 ≤ l.columns.toNat ∧ l.bpc.toNat ∈ [1, 2, 4, 8, 16] ∧
    (∀ m, cfg.rowMax = some m → (l.columns.toNat * l.colors.toNat * l.bpc.toNat + 7) / 8 ≤ m) ∧
    (dir = .enc ∧ l.pred.toNat = 15 → l.opttag.toNat ≤ 4))

/-- The predicted value of a byte from its neighbours, written from R222 to R226: `a` to the left, `b`
above, `c` above-left; `w` is the value, and for Paeth the nearest neighbour to `a + b - c`, ties in the
order a, b, c. -/
def FilterValue (f : PngFilter) (a b c w : Byte) : Prop :=
  match f with
  | .none => w = 0#8
  | .sub => w = a
  | .up => w = b
  | .average => w.toNat = (a.toNat + b.toNat) / 2
  | .paeth =>
    let p : Int := (a.toNat : Int) + (b.toNat : Int) - (c.toNat : Int)
    let far (x : Byte) : Nat := (p - (x.toNat : Int)).natAbs
    (w = a ∧ far a ≤ far b ∧ far a ≤ far c) ∨
    (w = b ∧ ¬(far a ≤ far b ∧ far a ≤ far c) ∧ far b ≤ far c) ∨
    (w = c ∧ ¬(far a ≤ far b ∧ far a ≤ far c) ∧ ¬(far b ≤ far c))

/-- Filtered and raw bytes of a row related at every index, written from R221: `a` is `bpp` bytes back in the
raw row, `b` at the same index and `c` `bpp` bytes back in the row before it, 0 outside. -/
def RowFiltered (f : PngFilter) (bpp : Nat) (prev raw filtered : List Byte) : Prop :=
  raw.length = filtered.length ∧
  ∀ i, i < raw.length → ∃ w : Byte,
    FilterValue f (if bpp ≤ i then raw.getD (i - bpp) 0#8 else 0#8) (prev.getD i 0#8)
      (if bpp ≤ i then prev.getD (i - bpp) 0#8 else 0#8) w ∧
    raw.getD i 0#8 = filtered.getD i 0#8 + w

/-- Component `j` of a row (R218): the number formed by bits `j * bpc` to `(j + 1) * bpc - 1` of the row's bit
string, first bit most significant, read off the big-endian number of the row. -/
def component (bpc j : Nat) (row : List Byte) : Nat :=
  beNat row / 2 ^ (8 * row.length - (j + 1) * bpc) % 2 ^ bpc

/-- Input and output of the TIFF row rule related component by component, written from R218 and R219: of a row
of `m` bytes the first `min(columns * colors, floor(8 * m / bpc))` components have the raw value of the same
colour in the preceding sample added (decode) or subtracted (encode), 0 in the first sample, and the bits
after the last of them are copied. -/
def TiffCoded (dir : Direction) (columns colors bpc : Nat) (input output : List Byte) : Prop :=
  let m := input.length
  let n := min (columns * colors) (8 * m / bpc)
  let left (raw : List Byte) (j : Nat) : Nat := if colors ≤ j then component bpc (j - colors) raw else 0
  output.length = m ∧
  (∀ j, j < n →
    (dir = .dec → component bpc j output = (component bpc j input + left output j) % 2 ^ bpc) ∧
    (dir = .enc → component bpc j output = (component bpc j input + 2 ^ bpc - left input j) % 2 ^ bpc)) ∧
  beNat output % 2 ^ (8 * m - n * bpc) = beNat input % 2 ^ (8 * m - n * bpc)

/-- Everything but the codec state, the flags and words of a transaction, and its payloads is unchanged: the
parameter registers, `CTRL`, the descriptor, the latches, and the model's own fields (R123, R268). -/
def KeepsRegisters (s t : State) : Prop :=
  t.cfg = s.cfg ∧ t.predictor = s.predictor ∧ t.colors = s.colors ∧ t.bpc = s.bpc ∧
  t.columns = s.columns ∧ t.ctrl = s.ctrl ∧ t.unit = s.unit ∧ t.dir = s.dir ∧ t.chain = s.chain ∧
  t.latch = s.latch ∧ t.rdata = s.rdata ∧ t.port = s.port

/-- `s` with other values in the five registers a host can write (R26 to R30). -/
def withParameters (predictor colors bpc columns ctrl : Word) (s : State) : State :=
  { s with predictor := predictor, colors := colors, bpc := bpc, columns := columns, ctrl := ctrl }

end Sys2Proof.Machine
end

