-- ==== Sys2Proof/Certificates/Slice0/Obligations.lean ====
section
/-! DEFINITION. The statements about the model, for the provers. Each formalises rules of spec/, named in its
docstring; the terms it uses beyond the machine's own are in Safety.lean. -/

open Sys2Proof Sys2Proof.Machine

/-! ## Encodings -/

/-- R107, R92: decoding the encoding of a well-formed instruction gives the instruction, for every row of the
table and every symbol of its block. -/
def Obligations.DecodeEncodeRoundTrip : Prop :=
  ∀ i : Instr, i.wf = true → decode (encode i) = some i

/-- R107: an encoding that decodes to an instruction is that instruction's encoding, and the instruction is
well-formed, so no two rows share an encoding; and in the five symbol formats every value decodes. -/
def Obligations.EncodeDecodeRoundTrip : Prop :=
  (∀ (e : Enc) (i : Instr), decode e = some i → encode i = e ∧ i.wf = true) ∧
  (∀ e : Enc, (∀ w, e ≠ .cmd w) → ∃ i, decode e = some i)

/-- R92, R93: the twelve words are the twelve commands, and every other 32-bit word is no command. -/
def Obligations.TwelveCommandWords : Prop :=
  ∀ (w : Word) (i : Instr), decode (.cmd w) = some i ↔
    (w, i) ∈ [(0x00000000#32, Instr.nop), (0x00000001#32, .startA85Dec), (0x00000081#32, .startA85Enc),
      (0x00000011#32, .startAhxDec), (0x00000091#32, .startAhxEnc), (0x00000021#32, .startLzwDec),
      (0x000000A1#32, .startLzwEnc), (0x00000031#32, .startPredDec), (0x000000B1#32, .startPredEnc),
      (0x00000002#32, .push), (0x00000003#32, .finish), (0x00000004#32, .abort)]

/-- Sanity: a few encodings written out from 30_encoding.md decode to the instructions they stand for. The bits
are the spec's; that a bare 8-bit word is read as A85CH and a bare 16-bit word as LZWCODE (the three clauses of
`decodeTableWord` with 8 or 16) is the model's choice (log entry 8). -/
def Obligations.WordsDecodeAsWritten : Prop :=
  decodeTableWord 32 0xA1 = some .startLzwEnc ∧
  decodeTableWord 8 0x7A = some .a85chZ7A ∧
  decode (.a85chT 0x3E#8) = some .a85chTGt3E ∧
  decode (.ahxch 0x66#8) = some .ahxchHex66 ∧
  decodeTableWord 16 0x101 = some .lzwcodeEod101 ∧
  decode (.pngtag 0x04#8) = some .pngtagPaeth04

/-! ## Steps, registers, words -/

/-- R8, R22: the oldest pending write to `CMD` is taken, and the step is `exec` of the instruction its word
decodes to, with the payload on the input stream port. -/
def Obligations.StepRunsDecodedInstruction : Prop :=
  ∀ (s : State) (w : Word) (payload : List Byte) (rest : List PortOp) (i : Instr),
    s.port = .write 0 w payload :: rest → decode (.cmd w) = some i →
    step s = exec i { s with inp := payload, port := rest }

/-- R93: a word outside the table of R92 is rejected: `RSP` is 0x0000010E, the payload answered is empty, and
nothing else changes (the model's own port fields apart: the entry is taken, the payload presented). -/
def Obligations.IllegalCommandIsRejected : Prop :=
  ∀ (s : State) (w : Word) (payload : List Byte) (rest : List PortOp),
    s.port = .write 0 w payload :: rest →
    w ∉ [0x00#32, 0x01#32, 0x81#32, 0x11#32, 0x91#32, 0x21#32, 0xA1#32, 0x31#32, 0xB1#32, 0x02#32,
      0x03#32, 0x04#32] →
    step s = .next { s with inp := payload, port := rest, rsp := 0x0000010E#32, out := [] }

/-- R21 to R30: what a register read returns, at every aligned offset; it changes nothing but the value
returned. Unaligned reads stop (log entry 10, the model's choice). -/
def Obligations.RegisterReads : Prop :=
  ∀ (s : State) (offset : Nat) (rest : List PortOp), s.port = .read offset :: rest →
    (offset % 4 ≠ 0 → step s = .refused .unalignedAccess) ∧
    (offset % 4 = 0 → ∃ v, step s = .next { s with rdata := v, port := rest } ∧
      (offset = 0x00 → v = 0#32) ∧ (offset = 0x04 → v = statusWord s) ∧
      (offset = 0x08 → v = s.errinfo) ∧ (offset = 0x0C → v = s.rsp) ∧
      (offset = 0x10 → v = s.predictor) ∧ (offset = 0x14 → v = s.colors) ∧
      (offset = 0x18 → v = s.bpc) ∧ (offset = 0x1C → v = s.columns) ∧
      (offset = 0x20 → v = s.ctrl) ∧ (0x24 ≤ offset → v = 0#32))

/-- R21, R26 to R30: a register write at every aligned offset but 0x00: the five read-write registers take the
value (`CTRL` without its reserved bits), every other offset changes nothing. -/
def Obligations.RegisterWrites : Prop :=
  ∀ (s : State) (offset : Nat) (v : Word) (payload : List Byte) (rest : List PortOp),
    s.port = .write offset v payload :: rest → offset ≠ 0 →
    (offset % 4 ≠ 0 → step s = .refused .unalignedAccess) ∧
    (offset = 0x10 → step s = .next { s with predictor := v, port := rest }) ∧
    (offset = 0x14 → step s = .next { s with colors := v, port := rest }) ∧
    (offset = 0x18 → step s = .next { s with bpc := v, port := rest }) ∧
    (offset = 0x1C → step s = .next { s with columns := v, port := rest }) ∧
    (offset = 0x20 → ∃ c, step s = .next { s with ctrl := c, port := rest } ∧
      ∀ k, k < 32 → c.getLsbD k = (v.getLsbD k && decide (k ∈ [0, 1, 2, 4, 5, 6]))) ∧
    (offset % 4 = 0 → offset = 0x04 ∨ offset = 0x08 ∨ offset = 0x0C ∨ 0x24 ≤ offset →
      step s = .next { s with port := rest })

/-- R47, R290, R292: the state after reset, and the step that takes the reset input; with nothing pending the
block waits. The latches, the port fields and `cfg` are the model's own (log entries 2, 3, 5, 17). -/
def Obligations.ResetState : Prop :=
  (∀ s : State, s.port = [] → step s = .next s) ∧
  (∀ (s : State) (rest : List PortOp), s.port = .reset :: rest →
    ∃ t, step s = .next t ∧ t.phase = .idle ∧ statusWord t = 0#32 ∧ t.errinfo = 0#32 ∧ t.rsp = 0#32 ∧
      t.predictor = 1#32 ∧ t.colors = 1#32 ∧ t.bpc = 8#32 ∧ t.columns = 1#32 ∧ t.ctrl = 0x44#32 ∧
      t.codec = none ∧ t.rows = none ∧ t.cfg = s.cfg ∧ t.port = rest) ∧
  (statusWord State.reset = 0#32 ∧ State.reset.errinfo = 0#32 ∧ State.reset.rsp = 0#32 ∧
    State.reset.predictor = 1#32 ∧ State.reset.colors = 1#32 ∧ State.reset.bpc = 8#32 ∧
    State.reset.columns = 1#32 ∧ ctrlStrict State.reset.ctrl = false ∧ ctrlHexup State.reset.ctrl = false ∧
    ctrlLeadclr State.reset.ctrl = true ∧ ctrlOpttag State.reset.ctrl = 4#3 ∧ State.reset.ctrl = 0x44#32 ∧
    State.reset.codec = none ∧ State.reset.rows = none)

/-- R95, R23: the fields of `STATUS` and their numbers, and a response word as the sum of its fields in their
places. -/
def Obligations.StatusAndResponseFields : Prop :=
  (∀ p : Phase, (p, p.code.toNat) ∈ [(Phase.idle, 0), (.active, 1), (.done, 2), (.error, 3)]) ∧
  (∀ u : CodecUnit, (u, u.code.toNat) ∈ [(CodecUnit.a85, 0), (.ahx, 1), (.lzw, 2), (.pred, 3)]) ∧
  (∀ d : Direction, (d, d.code.toNat) ∈ [(Direction.dec, 0), (.enc, 1)]) ∧
  (∀ k : ErrKind, (k, k.code.toNat) ∈
    [(ErrKind.noError, 0), (.formatError, 1), (.dataTruncated, 2), (.filterError, 3)]) ∧
  (∀ s : State,
    (statusWord s).toNat = s.phase.code.toNat + 4 * s.unit.code.toNat + 32 * s.dir.code.toNat +
      64 * s.chain.toNat + 128 * s.fin.toNat + 256 * s.errkind.code.toNat) ∧
  (∀ (rc : BitVec 2) (kind : ErrKind) (cause : BitVec 8) (sym : Code),
    (responseWord rc kind cause sym).toNat =
      rc.toNat + 4 * kind.code.toNat + 256 * cause.toNat + 65536 * sym.toNat) ∧
  errorWord .a85BadChar 0x076#12 = 0x00761005#32 ∧
  errorWord .ahxOddNibble 0x000#12 = 0x00002209#32 ∧
  errorWord .lzwBadCode 0x104#12 = 0x01043005#32

/-- R268: what taking a fault leaves, for every cause and symbol: the output dropped, the codec state
discarded, `errkind`, `ERRINFO`, `RSP` and the phase written, everything else kept. The first clause is the
table of R261: the code and the kind's number of every cause. -/
def Obligations.FaultEntrySequence : Prop :=
  (∀ cause : Cause, (cause, cause.code.toNat, cause.kind.code.toNat) ∈
    [(Cause.cmdIllegal, 0x01, 3), (.cfgInvalid, 0x02, 3), (.a85BadChar, 0x10, 1), (.a85ZInGroup, 0x11, 1),
      (.a85BadTerm, 0x12, 1), (.a85Overflow, 0x13, 1), (.a85NoTerm, 0x14, 1), (.ahxBadChar, 0x20, 1),
      (.ahxNoTerm, 0x21, 1), (.ahxOddNibble, 0x22, 2), (.lzwBadCode, 0x30, 1), (.lzwTableFull, 0x31, 1),
      (.lzwNoEod, 0x32, 1), (.lzwTrunc, 0x33, 2), (.pngBadTag, 0x40, 1), (.predShortRow, 0x41, 2)]) ∧
  ∀ (cause : Cause) (sym : Code) (s : State), ∃ info word : Word,
    faultEntry cause sym s =
      { s with out := [], codec := none, rows := none, errkind := cause.kind, errinfo := info,
               phase := .error, rsp := word } ∧
    info.toNat = cause.code.toNat + 65536 * sym.toNat ∧
    word.toNat = 1 + 4 * cause.kind.code.toNat + 256 * cause.code.toNat + 65536 * sym.toNat

/-! ## Commands -/

/-- R122, R134: `NOP` answers `OK` and changes nothing but `RSP`; `ABORT` discards the codec state, clears the
descriptor and the standing fault, and goes to IDLE; both in every phase. -/
def Obligations.NopAndAbort : Prop :=
  decode (.cmd 0x00000000#32) = some .nop ∧ decode (.cmd 0x00000004#32) = some .abort ∧
  ∀ s : State,
    exec .nop s = .next { s with rsp := 0#32, out := [] } ∧
    exec .abort s =
      .next { s with codec := none, rows := none, phase := .idle, unit := .a85, dir := .dec, chain := false,
                     fin := false, errkind := .noError, errinfo := 0#32, rsp := 0#32, out := [] }

/-- R123 to R131, R33, R34, R43: with legal parameters every START, in every phase, copies the registers into the
eight latches, writes the descriptor, clears `fin` and the fault, creates the unit's codec state and, where the
predictor works, an empty `CUR` and a `PREV` of `W` zero bytes, and goes to ACTIVE. Covers the eight START
instructions. -/
def Obligations.StartCreatesInvocation : Prop :=
  ∀ (unit : CodecUnit) (dir : Direction) (s : State),
    let l : Latches :=
      { pred := s.predictor, colors := s.colors, bpc := s.bpc, columns := s.columns
        strict := s.ctrl.getLsbD 0, hexup := s.ctrl.getLsbD 1, leadclr := s.ctrl.getLsbD 2
        opttag := s.ctrl.extractLsb' 4 3 }
    ParametersLegal s.cfg unit dir l →
    ∃ (rows : Option Rows) (chain : Bool),
      exec (startInstr unit dir) s =
        .next { s with
          codec := some (createdCodec unit dir l), rows := rows, latch := l
          unit := unit, dir := dir, chain := chain, fin := false, errkind := .noError
          errinfo := 0#32, phase := .active, rsp := 0#32, out := [] } ∧
      (chain = true ↔ unit = .lzw ∧ s.predictor ≠ 1#32) ∧
      (PredictorWorks unit l →
        rows = some {
          cur := []
          prev := List.replicate ((s.columns.toNat * s.colors.toNat * s.bpc.toNat + 7) / 8) 0#8 }) ∧
      (¬ PredictorWorks unit l → rows = none)

/-- R262, R33: with a parameter no check of START allows, every START faults with `CFG_INVALID`, after the
descriptor and the latches are written (R123). Only LZW and PRED can. -/
def Obligations.StartRefusesIllegalParameters : Prop :=
  ∀ (unit : CodecUnit) (dir : Direction) (s : State),
    let l : Latches :=
      { pred := s.predictor, colors := s.colors, bpc := s.bpc, columns := s.columns
        strict := s.ctrl.getLsbD 0, hexup := s.ctrl.getLsbD 1, leadclr := s.ctrl.getLsbD 2
        opttag := s.ctrl.extractLsb' 4 3 }
    ¬ ParametersLegal s.cfg unit dir l →
    (unit = .lzw ∨ unit = .pred) ∧
    ∃ chain : Bool, (chain = true ↔ unit = .lzw ∧ s.predictor ≠ 1#32) ∧
      exec (startInstr unit dir) s =
        .next { s with
          codec := none, rows := none, latch := l, unit := unit, dir := dir, chain := chain
          fin := false, errkind := .filterError, errinfo := 0x00000002#32, phase := .error
          rsp := 0x0000020D#32, out := [] }

/-- R121: PUSH and FINISH outside phase ACTIVE, and a PUSH of more than `CHUNK_MAX` bytes, are rejected: only
`RSP` changes and the answer's payload is empty; the payload presented is not consumed. -/
def Obligations.PushAndFinishRejected : Prop :=
  ∀ s : State,
    (s.phase ≠ .active →
      exec .push s = .next { s with rsp := 0x0000010E#32, out := [] } ∧
      exec .finish s = .next { s with rsp := 0x0000010E#32, out := [] }) ∧
    (∀ m, s.cfg.chunkMax = some m → m < s.inp.length →
      exec .push s = .next { s with rsp := 0x0000010E#32, out := [] })

/-- R132, R268 and the frame of PUSH: in phase ACTIVE a payload within `CHUNK_MAX` is consumed; the answer is
`OK` in phase ACTIVE, or a fault with an empty payload; every register, the descriptor and the latches are
unchanged, and only a decoder's `fin` can be set. -/
def Obligations.PushCompletes : Prop :=
  ∀ (s : State) (c : Codec), s.phase = .active → s.codec = some c → PayloadFits s →
    ∃ t, exec .push s = .next t ∧ t.inp = [] ∧ KeepsRegisters s t ∧
      (s.fin = true → t.fin = true) ∧
      ((∀ d, c ≠ .a85Dec d) ∧ (∀ d, c ≠ .ahxDec d) ∧ (∀ d, c ≠ .lzwDec d) → t.fin = s.fin) ∧
      ((t.phase = .active ∧ t.rsp = 0#32 ∧ t.codec ≠ none ∧ t.errkind = s.errkind ∧ t.errinfo = s.errinfo) ∨
       (∃ cause sym, t.phase = .error ∧ t.out = [] ∧ t.codec = none ∧ t.rows = none ∧
          t.errkind = cause.kind ∧ t.errinfo = errinfoWord cause sym ∧ t.rsp = errorWord cause sym))

/-- R133, R268 and the frame of FINISH: in phase ACTIVE the codec state is discarded; the answer is `OK` in
phase DONE, or a fault with an empty payload; `unit`, `dir`, `chain`, `fin`, every register and the latches
are unchanged. -/
def Obligations.FinishCompletes : Prop :=
  ∀ (s : State) (c : Codec), s.phase = .active → s.codec = some c →
    ∃ t, exec .finish s = .next t ∧ t.inp = s.inp ∧ KeepsRegisters s t ∧ t.fin = s.fin ∧
      t.codec = none ∧ t.rows = none ∧
      ((t.phase = .done ∧ t.rsp = 0#32 ∧ t.errkind = s.errkind ∧ t.errinfo = s.errinfo) ∨
       (∃ cause sym, t.phase = .error ∧ t.out = [] ∧
          cause ∈ [Cause.a85NoTerm, .ahxNoTerm, .ahxOddNibble, .lzwNoEod, .lzwTrunc, .predShortRow, .pngBadTag] ∧
          t.errkind = cause.kind ∧ t.errinfo = errinfoWord cause sym ∧ t.rsp = errorWord cause sym))

/-- R120: the phase a command can lead to from each phase; every other step of a command is shut out. -/
def Obligations.PhaseTransitions : Prop :=
  ∀ (s t : State) (i : Instr) (w : Word), encode i = .cmd w → exec i s = .next t →
    (i = .nop → t.phase = s.phase) ∧
    (i = .abort → t.phase = .idle) ∧
    (i ∈ [Instr.startA85Dec, .startA85Enc, .startAhxDec, .startAhxEnc] → t.phase = .active) ∧
    (i ∈ [Instr.startLzwDec, .startLzwEnc, .startPredDec, .startPredEnc] →
      t.phase = .active ∨ t.phase = .error) ∧
    (i = .push → (s.phase ≠ .active → t.phase = s.phase) ∧
      (s.phase = .active → t.phase = .active ∨ t.phase = .error)) ∧
    (i = .finish → (s.phase ≠ .active → t.phase = s.phase) ∧
      (s.phase = .active → t.phase = .done ∨ t.phase = .error))

/-- R64, R188: a PUSH with an empty payload emits nothing and changes no state, but for the first PUSH of an
LZW encode invocation that owes the opening CLEAR: it answers `80` and leaves one bit, 0, unwritten. -/
def Obligations.EmptyPush : Prop :=
  ∀ (s : State) (c : Codec), s.phase = .active → s.codec = some c → s.inp = [] →
    ((∀ e, c = .lzwEnc e → e.lead = false) →
      exec .push s = .next { s with rsp := 0#32, out := [] }) ∧
    (∀ e, c = .lzwEnc e → e.Ok → e.lead = true →
      exec .push s =
        .next { s with
          codec := some (.lzwEnc { e with acc := 0, nbits := 1, lead := false })
          rsp := 0#32, out := [0x80#8] })

/-- R79, R144: once a decoder has set `fin`, a PUSH consumes its payload without looking at it, each byte of a
payload that is still to come changes nothing, and every symbol of the decoder's formats is ignored. That a symbol
or an LZW code as an instruction changes nothing then is inferred from the rules on bytes, the model's reading (log
entry 7). Covers the rows of A85CH, A85CH_T, AHXCH and LZWCODE. -/
def Obligations.InputAfterTerminatorIgnored : Prop :=
  ∀ (s : State) (c : Codec), s.phase = .active → s.codec = some c → s.fin = true →
    (((∃ d, c = .a85Dec d) ∨ (∃ d, c = .ahxDec d) ∨ (∃ d, c = .lzwDec d)) →
      PayloadFits s → exec .push s = .next { s with inp := [], out := [], rsp := 0#32 }) ∧
    (((∃ d, c = .a85Dec d) ∨ (∃ d, c = .ahxDec d) ∨ (∃ d, c = .lzwDec d)) → ∀ b, byteStep b s = s) ∧
    (∀ (i : Instr) (ch : Byte), (∃ d, c = .a85Dec d) → encode i = .a85ch ch ∨ encode i = .a85chT ch →
      exec i s = .next s) ∧
    (∀ (i : Instr) (ch : Byte), (∃ d, c = .ahxDec d) → encode i = .ahxch ch → exec i s = .next s) ∧
    (∀ (i : Instr) (code : Code), (∃ d, c = .lzwDec d) → encode i = .lzwcode code → exec i s = .next s)

/-- R63: a PUSH takes its payload byte by byte: pushing `a` and then `b` does what pushing `a ++ b` does, the
two outputs joined, or the same fault. -/
def Obligations.PushOfTwoPieces : Prop :=
  ∀ (s t u : State) (a b : List Byte), PayloadFits { s with inp := a ++ b } → s.phase = .active →
    exec .push { s with inp := a } = .next t → t.phase = .active →
    exec .push { t with inp := b } = .next u →
    exec .push { s with inp := a ++ b } =
      .next (if u.phase = .active then { u with out := t.out ++ u.out } else u)

/-- R66: cutting the input of an invocation into payloads in any way gives the same outcome: for two cuttings
of the same bytes into payloads the block accepts, the same verdict (`OK`, or the same fault word, so the same
cause and symbol) and, where it is `OK`, the same concatenated output. -/
def Obligations.ChunkIndependence : Prop :=
  ∀ (unit : CodecUnit) (dir : Direction) (cut cut' : List (List Byte)) (s : State),
    cut.flatten = cut'.flatten → PayloadsFit cut s → PayloadsFit cut' s →
    ∃ w out, outcome unit dir cut s = some (w, out) ∧ outcome unit dir cut' s = some (w, out)

/-! ## The symbols of a PUSH are the rows of the table -/

/-- R132, R143, R96: where the A85 decoder is at work, PUSH does with a byte what the instruction it decodes
to, in the format that `tilde` selects, does. -/
def Obligations.PushByteRunsA85Symbol : Prop :=
  ∀ (s : State) (d : A85Dec) (b : Byte), A85Decoding s d →
    ∃ i, decode (if d.tilde then .a85chT b else .a85ch b) = some i ∧ exec i s = .next (byteStep b s)

/-- R132, R163, R98: the same for the AHX decoder. -/
def Obligations.PushByteRunsAhxSymbol : Prop :=
  ∀ (s : State) (d : AhxDec) (b : Byte), AhxDecoding s d →
    ∃ i, decode (.ahxch b) = some i ∧ exec i s = .next (byteStep b s)

/-- R132, R178, R99: where the LZW decoder is at work, PUSH takes a byte into the input bits; if a code is
available it does what the instruction the code decodes to does, else it only keeps the bits. -/
def Obligations.PushByteRunsLzwCode : Prop :=
  ∀ (s : State) (d : LzwDec) (b : Byte), LzwDecoding s d →
    (∀ code d', readCode b d = (some code, d') →
      ∃ i, decode (.lzwcode code) = some i ∧
        exec i { s with codec := some (.lzwDec d') } = .next (byteStep b s)) ∧
    (∀ d', readCode b d = (none, d') → byteStep b s = { s with codec := some (.lzwDec d') })

/-- R214, R216, R227, R34, R100: where a PNG decode is at work, the byte that completes a unit (tag and `W` bytes)
makes PUSH do what the instruction of the unit's tag does on that unit; at FINISH under lenient strictness the
same happens to a short unit. That a tag as an instruction takes its unit from `CUR` is the model's reading (log
entry 12). -/
def Obligations.UnitRunsPngTag : Prop :=
  ∀ (s : State) (tag x : Byte) (data prev : List Byte), PngDecoding s tag data prev →
    ((tag :: data ++ [x]).length =
        (s.latch.columns.toNat * s.latch.colors.toNat * s.latch.bpc.toNat + 7) / 8 + 1 →
      ∃ i, decode (.pngtag tag) = some i ∧
        exec i { s with rows := some { cur := tag :: data ++ [x], prev := prev } } = .next (predByte x s)) ∧
    (s.latch.strict = false →
      ∃ i, decode (.pngtag tag) = some i ∧ exec i s = .next (predFinish s))

/-- Outside phase ACTIVE no symbol is fetched (R120, R121), and the instruction of every symbol class stops
by name there: the model's choice (log entry 6). -/
def Obligations.SymbolsStopOutsideInvocation : Prop :=
  ∀ (s : State) (i : Instr), s.phase ≠ .active → (∀ w, encode i ≠ .cmd w) →
    exec i s = .refused .outOfContext

/-! ## A85 and AHX -/

/-- R145, R163: whitespace is consumed and changes nothing, also between `~` and `>`. Covers the WS rows of
A85CH, A85CH_T and AHXCH. -/
def Obligations.WhitespaceSkipped : Prop :=
  ∀ (s : State) (i : Instr) (ch : Byte), i.wf = true →
    ch ∈ [0x00#8, 0x09#8, 0x0A#8, 0x0C#8, 0x0D#8, 0x20#8] →
    (∀ d, A85Decoding s d → d.tilde = false → encode i = .a85ch ch → exec i s = .next s) ∧
    (∀ d, A85Decoding s d → d.tilde = true → encode i = .a85chT ch → exec i s = .next s) ∧
    (∀ d, AhxDecoding s d → encode i = .ahxch ch → exec i s = .next s)

/-- R146: `z` between groups emits four zero bytes; inside a group it faults. Covers the row A85CH.Z. -/
def Obligations.A85ZeroGroup : Prop :=
  ∀ (s : State) (d : A85Dec), A85Decoding s d → d.tilde = false →
    (d.dig = [] → exec .a85chZ7A s = .next { s with out := s.out ++ [0#8, 0#8, 0#8, 0#8] }) ∧
    (d.dig ≠ [] → exec .a85chZ7A s = .next (faultEntry .a85ZInGroup 0x07A#12 s))

/-- R147, R67: a digit joins the group; the fifth completes it, and the group's value leaves as four bytes,
most significant first, or faults when it exceeds `2^32 - 1`. Covers the DIGIT rows of A85CH. -/
def Obligations.A85DigitGroup : Prop :=
  ∀ (s : State) (d : A85Dec) (i : Instr) (ch : Byte), A85Decoding s d → d.tilde = false →
    i.wf = true → encode i = .a85ch ch → 0x21 ≤ ch.toNat → ch.toNat ≤ 0x75 →
    (d.dig.length < 4 →
      exec i s = .next { s with codec := some (.a85Dec { d with dig := d.dig ++ [ch.toNat - 33] }) }) ∧
    (∀ d0 d1 d2 d3, d.dig = [d0, d1, d2, d3] →
      let v := d0 * 85 ^ 4 + d1 * 85 ^ 3 + d2 * 85 ^ 2 + d3 * 85 + (ch.toNat - 33)
      (v ≤ 2 ^ 32 - 1 → ∃ bytes, bytes.length = 4 ∧ beNat bytes = v ∧
        exec i s =
          .next { s with codec := some (.a85Dec { d with dig := [] }), out := s.out ++ bytes }) ∧
      (2 ^ 32 - 1 < v → exec i s = .next (faultEntry .a85Overflow (ch.setWidth 12) s)))

/-- R148: `~` opens the terminator; after it any byte that is neither whitespace nor `>` faults. Covers the
row A85CH.TILDE and the BAD rows of A85CH_T. -/
def Obligations.A85TildeAndBadTerminator : Prop :=
  ∀ (s : State) (d : A85Dec), A85Decoding s d →
    (d.tilde = false → exec .a85chTilde7E s = .next { s with codec := some (.a85Dec { d with tilde := true }) }) ∧
    (∀ (i : Instr) (ch : Byte), d.tilde = true → i.wf = true → encode i = .a85chT ch →
      ch ∉ [0x00#8, 0x09#8, 0x0A#8, 0x0C#8, 0x0D#8, 0x20#8, 0x3E#8] →
      exec i s = .next (faultEntry .a85BadTerm (ch.setWidth 12) s))

/-- R149: `>` after `~` ends the stream; the 0 to 4 digits waiting are padded with 84s, and the first `n - 1`
bytes of the value leave, or the padded value faults. `fin` is set. Covers the row A85CH_T.GT. -/
def Obligations.A85TerminatorEndsStream : Prop :=
  ∀ (s : State) (d : A85Dec), A85Decoding s d → d.tilde = true → d.dig.length ≤ 4 →
    (d.dig = [] →
      exec .a85chTGt3E s =
        .next { s with codec := some (.a85Dec { dig := [], tilde := false }), fin := true }) ∧
    (∀ d0 d1 d2 d3 d4, d.dig ≠ [] →
      [d0, d1, d2, d3, d4] = d.dig ++ List.replicate (5 - d.dig.length) 84 →
      let v := d0 * 85 ^ 4 + d1 * 85 ^ 3 + d2 * 85 ^ 2 + d3 * 85 + d4
      (v ≤ 2 ^ 32 - 1 → ∃ bytes, bytes.length = 4 ∧ beNat bytes = v ∧
        exec .a85chTGt3E s =
          .next { s with
            codec := some (.a85Dec { dig := [], tilde := false }), fin := true
            out := s.out ++ bytes.take (d.dig.length - 1) }) ∧
      (2 ^ 32 - 1 < v → exec .a85chTGt3E s = .next (faultEntry .a85Overflow 0x03E#12 s)))

/-- R151, R166: a byte of no other class faults, with the byte as the symbol. Covers the BAD rows of A85CH and
AHXCH. -/
def Obligations.BadCharactersFault : Prop :=
  ∀ (s : State) (i : Instr) (ch : Byte), i.wf = true →
    ch ∉ [0x00#8, 0x09#8, 0x0A#8, 0x0C#8, 0x0D#8, 0x20#8] →
    (∀ d, A85Decoding s d → d.tilde = false → encode i = .a85ch ch → ch ≠ 0x7E#8 → ch ≠ 0x7A#8 →
      ¬ (0x21 ≤ ch.toNat ∧ ch.toNat ≤ 0x75) →
      exec i s = .next (faultEntry .a85BadChar (ch.setWidth 12) s)) ∧
    (∀ d, AhxDecoding s d → encode i = .ahxch ch → ch ≠ 0x3E#8 →
      ¬ (0x30 ≤ ch.toNat ∧ ch.toNat ≤ 0x39) → ¬ (0x41 ≤ ch.toNat ∧ ch.toNat ≤ 0x46) →
      ¬ (0x61 ≤ ch.toNat ∧ ch.toNat ≤ 0x66) →
      exec i s = .next (faultEntry .ahxBadChar (ch.setWidth 12) s))

/-- R141, R140: A85 encode. A byte that leaves the group short only joins `ebuf`; the fourth byte sends the
group: `z` when all four are 0, else five characters, the base-85 digits of the big-endian value plus 33,
most significant first. -/
def Obligations.A85EncodeGroup : Prop :=
  ∀ (s : State) (ebuf : List Byte) (b : Byte), s.phase = .active → s.codec = some (.a85Enc ebuf) →
    PayloadFits s → s.inp = [b] →
    (ebuf.length < 3 →
      exec .push s =
        .next { s with codec := some (.a85Enc (ebuf ++ [b])), inp := [], out := [], rsp := 0#32 }) ∧
    (∀ b0 b1 b2, ebuf = [b0, b1, b2] →
      let v := b0.toNat * 2 ^ 24 + b1.toNat * 2 ^ 16 + b2.toNat * 2 ^ 8 + b.toNat
      ∃ out, exec .push s = .next { s with codec := some (.a85Enc []), inp := [], out := out, rsp := 0#32 } ∧
        (v = 0 → out = [0x7A#8]) ∧
        (v ≠ 0 → ∃ d0 d1 d2 d3 d4, d0 < 85 ∧ d1 < 85 ∧ d2 < 85 ∧ d3 < 85 ∧ d4 < 85 ∧
          v = d0 * 85 ^ 4 + d1 * 85 ^ 3 + d2 * 85 ^ 2 + d3 * 85 + d4 ∧
          out.map BitVec.toNat = [d0 + 33, d1 + 33, d2 + 33, d3 + 33, d4 + 33]))

/-- R142, R162: FINISH of the text encoders. A85: the `n` bytes waiting are padded with zero bytes and the
first `n + 1` characters of the group leave (never `z`), then `~>`; AHX: `>`. -/
def Obligations.TextEncodersFinish : Prop :=
  ∀ s : State, s.phase = .active →
    (∀ ebuf, s.codec = some (.a85Enc ebuf) → ebuf.length ≤ 3 →
      ∃ chars, exec .finish s =
        .next { s with codec := none, rows := none, phase := .done, rsp := 0#32
                       out := chars ++ [0x7E#8, 0x3E#8] } ∧
        (ebuf = [] → chars = []) ∧
        (∀ b0 b1 b2 b3, ebuf ≠ [] → [b0, b1, b2, b3] = ebuf ++ List.replicate (4 - ebuf.length) 0#8 →
          ∃ d0 d1 d2 d3 d4, d0 < 85 ∧ d1 < 85 ∧ d2 < 85 ∧ d3 < 85 ∧ d4 < 85 ∧
            b0.toNat * 2 ^ 24 + b1.toNat * 2 ^ 16 + b2.toNat * 2 ^ 8 + b3.toNat =
              d0 * 85 ^ 4 + d1 * 85 ^ 3 + d2 * 85 ^ 2 + d3 * 85 + d4 ∧
            chars.map BitVec.toNat = [d0 + 33, d1 + 33, d2 + 33, d3 + 33, d4 + 33].take (ebuf.length + 1))) ∧
    (s.codec = some .ahxEnc →
      exec .finish s =
        .next { s with codec := none, rows := none, phase := .done, rsp := 0#32, out := [0x3E#8] })

/-- R150, R167, R186: FINISH of a decoder that has not seen its terminator faults; truncation is reported
before the missing terminator. One that has seen it, with no predictor behind it, emits nothing and is
DONE. -/
def Obligations.DecodersDemandTerminator : Prop :=
  ∀ s : State, s.phase = .active →
    (∀ d, s.codec = some (.a85Dec d) → s.fin = false →
      exec .finish s = .next (faultEntry .a85NoTerm 0#12 s)) ∧
    (∀ d, s.codec = some (.ahxDec d) → s.fin = false →
      exec .finish s = .next (faultEntry (if d.waiting then .ahxOddNibble else .ahxNoTerm) 0#12 s)) ∧
    (∀ d, s.codec = some (.lzwDec d) → s.fin = false →
      exec .finish s = .next (faultEntry (if 0 < d.nbits then .lzwTrunc else .lzwNoEod) 0#12 s)) ∧
    (s.fin = true → (∃ d, s.codec = some (.a85Dec d)) ∨ (∃ d, s.codec = some (.ahxDec d)) ∨
        ((∃ d, s.codec = some (.lzwDec d)) ∧ s.chain = false) →
      exec .finish s =
        .next { s with codec := none, rows := none, phase := .done, rsp := 0#32, out := [] })

/-- R152: "For every byte sequence `b`, `decode(encode(b)) = b`", and the encoding ends in `~>` and holds no
other `~` and no whitespace. -/
def Obligations.A85RoundTrip : Prop :=
  ∀ (s : State) (b : List Byte), ∃ text, Codes .a85 .enc s b (text ++ [0x7E#8, 0x3E#8]) ∧
    (∀ ch ∈ text, ch ≠ 0x7E#8 ∧ ch ∉ [0x00#8, 0x09#8, 0x0A#8, 0x0C#8, 0x0D#8, 0x20#8]) ∧
    Codes .a85 .dec s (text ++ [0x7E#8, 0x3E#8]) b

/-- R164, R98: the first hex digit of a pair waits, the second completes the byte, high nibble first, in
either case of letter. Covers the HEX rows of AHXCH. -/
def Obligations.AhxDigitPairs : Prop :=
  ∀ (s : State) (d : AhxDec) (i : Instr) (ch : Byte) (v : Nat), AhxDecoding s d →
    i.wf = true → encode i = .ahxch ch →
    (0x30 ≤ ch.toNat ∧ ch.toNat ≤ 0x39 ∧ v = ch.toNat - 0x30 ∨
     0x41 ≤ ch.toNat ∧ ch.toNat ≤ 0x46 ∧ v = ch.toNat - 0x41 + 10 ∨
     0x61 ≤ ch.toNat ∧ ch.toNat ≤ 0x66 ∧ v = ch.toNat - 0x61 + 10) →
    (d.waiting = false →
      exec i s =
        .next { s with codec := some (.ahxDec { waiting := true, hi := BitVec.ofNat 4 v }) }) ∧
    (d.waiting = true →
      exec i s =
        .next { s with
          codec := some (.ahxDec { waiting := false, hi := 0#4 })
          out := s.out ++ [BitVec.ofNat 8 (d.hi.toNat * 16 + v)] })

/-- R165: `>` ends the stream and completes a waiting digit with the nibble 0. Covers the row AHXCH.GT. -/
def Obligations.AhxTerminator : Prop :=
  ∀ (s : State) (d : AhxDec), AhxDecoding s d →
    (d.waiting = false → exec .ahxchGt3E s = .next { s with fin := true }) ∧
    (d.waiting = true →
      exec .ahxchGt3E s =
        .next { s with
          codec := some (.ahxDec { waiting := false, hi := 0#4 }), fin := true
          out := s.out ++ [BitVec.ofNat 8 (d.hi.toNat * 16)] })

/-- R161, R160: AHX encode writes two hex digits per byte, high nibble first, in the case the latch `L_HEXUP`
selects, and nothing else; the output of a PUSH of `n` bytes is `2n` bytes. -/
def Obligations.AhxEncodePush : Prop :=
  ∀ s : State, s.phase = .active → s.codec = some .ahxEnc → PayloadFits s →
    ∃ out, exec .push s = .next { s with inp := [], out := out, rsp := 0#32 } ∧
      out.length = 2 * s.inp.length ∧
      ∀ k (b : Byte), s.inp[k]? = some b →
        let digit (n : Nat) : Nat :=
          if n ≤ 9 then 0x30 + n else if s.latch.hexup then 0x41 + (n - 10) else 0x61 + (n - 10)
        out[2 * k]? = some (BitVec.ofNat 8 (digit (b.toNat / 16))) ∧
        out[2 * k + 1]? = some (BitVec.ofNat 8 (digit (b.toNat % 16)))

/-- R168: "For every byte sequence `b`, `decode(encode(b)) = b`", for both values of `L_HEXUP`; the encoding
has length `2n + 1`, no whitespace, and its last byte is its only `>`. -/
def Obligations.AhxRoundTrip : Prop :=
  ∀ (s : State) (b : List Byte), ∃ text, Codes .ahx .enc s b (text ++ [0x3E#8]) ∧
    text.length = 2 * b.length ∧
    (∀ ch ∈ text, ch ≠ 0x3E#8 ∧ ch ∉ [0x00#8, 0x09#8, 0x0A#8, 0x0C#8, 0x0D#8, 0x20#8]) ∧
    Codes .ahx .dec s (text ++ [0x3E#8]) b

/-! ## LZW -/

/-- R181, R182, R180: CLEAR restores the initial table and width and forgets `last`, at any time; EOD, where
the table is not full, sets `fin` and drops the unread bits. Covers the rows LZWCODE.CLEAR and EOD. -/
def Obligations.LzwClearAndEod : Prop :=
  ∀ (s : State) (d : LzwDec), LzwDecoding s d →
    exec .lzwcodeClear100 s =
      .next { s with codec := some (.lzwDec { d with tab := [], tsize := 258, width := 9, last := none }) } ∧
    (d.tsize ≠ 4095 →
      exec .lzwcodeEod101 s =
        .next { s with codec := some (.lzwDec { d with acc := 0, nbits := 0 }), fin := true })

/-- R183: the first code of a table generation: a literal emits its byte and records nothing; a code of 258 or
more faults. Covers the LIT and REF rows of LZWCODE. The chained form sends the byte on to the predictor
(R251). -/
def Obligations.LzwFirstCode : Prop :=
  ∀ (s : State) (d : LzwDec) (i : Instr) (code : Code), LzwDecoding s d → d.tsize ≠ 4095 →
    d.last = none → i.wf = true → encode i = .lzwcode code →
    (code.toNat < 256 →
      exec i s =
        .next (let t := { s with codec := some (.lzwDec { d with last := some code }) }
               if s.chain then predByte (code.setWidth 8) t
               else { t with out := s.out ++ [code.setWidth 8] })) ∧
    (258 ≤ code.toNat → exec i s = .next (faultEntry .lzwBadCode code s))

/-- R184, R185, R179: a normal code emits its string, or for the code `tsize` the last string and its first
byte again, records the last string extended by the emitted string's first byte, and sets the width;
a code above `tsize` faults. `ls` is `TAB[last]` and `str` is `TAB[code]`. Covers the LIT and REF rows of
LZWCODE. The chained form sends the string on to the predictor byte by byte (R251). -/
def Obligations.LzwNormalCode : Prop :=
  ∀ (s : State) (d : LzwDec) (i : Instr) (code last : Code) (x : Byte) (xs : List Byte), LzwDecoding s d →
    d.tsize ≤ 4094 → d.last = some last → tabString d.tab last.toNat = x :: xs →
    i.wf = true → encode i = .lzwcode code → code ≠ 256#12 → code ≠ 257#12 →
    (∀ str y ys, (code.toNat < d.tsize ∧ str = tabString d.tab code.toNat ∨
        code.toNat = d.tsize ∧ str = (x :: xs) ++ [x]) → str = y :: ys →
      exec i s =
        .next (let t := { s with codec := some (.lzwDec { d with
                 tab := d.tab ++ [(x :: xs) ++ [y]], tsize := d.tsize + 1, last := some code
                 width := if d.tsize + 1 ≤ 510 then 9 else if d.tsize + 1 ≤ 1022 then 10
                          else if d.tsize + 1 ≤ 2046 then 11 else 12 }) }
               if s.chain then predFeed str t else { t with out := s.out ++ str })) ∧
    (d.tsize < code.toNat → exec i s = .next (faultEntry .lzwBadCode code s))

/-- R180: at table size 4095 the decoder accepts CLEAR, and every other code, EOD included, faults with
`LZW_TABLE_FULL`. Covers every row of LZWCODE. -/
def Obligations.LzwTableFullFaults : Prop :=
  ∀ (s : State) (d : LzwDec) (i : Instr) (code : Code), LzwDecoding s d → d.tsize = 4095 →
    i.wf = true → encode i = .lzwcode code →
    (code ≠ 256#12 → exec i s = .next (faultEntry .lzwTableFull code s)) ∧
    (code = 256#12 → exec i s =
      .next { s with codec := some (.lzwDec { d with tab := [], tsize := 258, width := 9, last := none }) })

/-- R177, R187, R69, R190: bits and codes. What the encoder holds and a code of `width` bits leave as whole
bytes, the oldest bits first, and fewer than 8 bits stay; the decoder takes the oldest `width` bits of what
it holds and a byte; and `Wenc(t) = Wdec(t - 1)` for every `t` from 259 to 4095. -/
def Obligations.CodesPackMsbFirst : Prop :=
  (∀ (e : LzwEnc) (c : Nat), e.nbits ≤ 7 → e.acc < 2 ^ e.nbits → c < 2 ^ e.width →
    let r := writeCode c e
    e.acc * 2 ^ e.width + c = beNat r.2 * 2 ^ r.1.nbits + r.1.acc ∧
    e.nbits + e.width = 8 * r.2.length + r.1.nbits ∧ r.1.nbits < 8 ∧ r.1.acc < 2 ^ r.1.nbits ∧
    r.1 = { e with acc := r.1.acc, nbits := r.1.nbits }) ∧
  (∀ (d : LzwDec) (b : Byte), 9 ≤ d.width → d.width ≤ 12 → d.nbits < d.width → d.acc < 2 ^ d.nbits →
    (d.nbits + 8 < d.width →
      readCode b d = (none, { d with acc := d.acc * 256 + b.toNat, nbits := d.nbits + 8 })) ∧
    (d.width ≤ d.nbits + 8 → ∃ code d', readCode b d = (some code, d') ∧
      d.acc * 256 + b.toNat = code.toNat * 2 ^ d'.nbits + d'.acc ∧ code.toNat < 2 ^ d.width ∧
      d'.nbits + d.width = d.nbits + 8 ∧ d'.acc < 2 ^ d'.nbits ∧
      d' = { d with acc := d'.acc, nbits := d'.nbits })) ∧
  (∀ t, 259 ≤ t → t ≤ 4095 → widthEnc t = widthDec (t - 1))

/-- R189, R190, R191: one byte of an unchained LZW encode after the opening CLEAR. If the candidate extended
by the byte is in the table it is the new candidate and nothing is written; else the candidate's code is
written, the extended string recorded and the byte becomes the candidate, with the width switched at 512,
1024 and 2048 entries and, at 4096, CLEAR written and the table dropped. -/
def Obligations.LzwEncodeByte : Prop :=
  ∀ (s : State) (e : LzwEnc) (b : Byte), s.phase = .active → s.codec = some (.lzwEnc e) → e.Ok →
    e.lead = false → s.chain = false → PayloadFits s → s.inp = [b] →
    let ns := e.cand ++ [b]
    let w := writeCode (tabCode e.tab e.cand) e
    let recorded := { w.1 with tab := e.tab ++ [ns], tsize := e.tsize + 1, cand := [b] }
    ((ns.length = 1 ∨ ns ∈ e.tab) →
      exec .push s =
        .next { s with codec := some (.lzwEnc { e with cand := ns }), inp := [], out := [], rsp := 0#32 }) ∧
    (ns.length ≠ 1 → ns ∉ e.tab → e.tsize + 1 ≠ 4096 →
      exec .push s =
        .next { s with
          codec := some (.lzwEnc { recorded with width := widthEnc (e.tsize + 1) })
          inp := [], out := w.2, rsp := 0#32 }) ∧
    (ns.length ≠ 1 → ns ∉ e.tab → e.tsize + 1 = 4096 →
      let c := writeCode 256 recorded
      exec .push s =
        .next { s with
          codec := some (.lzwEnc { c.1 with tab := [], tsize := 258, width := 9 })
          inp := [], out := w.2 ++ c.2, rsp := 0#32 })

/-- R192, R193: FINISH of an LZW encode, unchained or with the predictor on a row boundary. With a candidate: its code
at the current width, the entry counted (with CLEAR in 12 bits and the initial width at table size 4096), EOD at the
width then current; without one: EOD. After the bits still unwritten these are the bits of the output, most
significant first, and the fewer than 8 bits that fill its last byte are 0. While the opening CLEAR is owed the
output is `80 40 40` (R188). A chained encode with a short final row: ChainEqualsTwoUnits. -/
def Obligations.LzwEncodeFinish : Prop :=
  ∀ (s : State) (e : LzwEnc), s.phase = .active → s.codec = some (.lzwEnc e) → e.Ok →
    (s.chain = true → ∃ prev, s.rows = some { cur := [], prev := prev }) →
    ∃ out, exec .finish s =
        .next { s with codec := none, rows := none, phase := .done, rsp := 0#32, out := out } ∧
      (e.lead = true → out = [0x80#8, 0x40#8, 0x40#8]) ∧
      (e.lead = false → e.cand = [] → ∃ pad, pad < 8 ∧
        8 * out.length = e.nbits + e.width + pad ∧
        beNat out = (e.acc * 2 ^ e.width + 257) * 2 ^ pad) ∧
      (∀ c, e.lead = false → e.cand ≠ [] → codeMapped e.tab c → tabString e.tab c = e.cand →
        let written := e.acc * 2 ^ e.width + c
        (∀ w, e.tsize + 1 ≠ 4096 →
          w = (if e.tsize + 1 ≤ 511 then 9 else if e.tsize + 1 ≤ 1023 then 10
               else if e.tsize + 1 ≤ 2047 then 11 else 12) →
          ∃ pad, pad < 8 ∧ 8 * out.length = e.nbits + e.width + w + pad ∧
            beNat out = (written * 2 ^ w + 257) * 2 ^ pad) ∧
        (e.tsize + 1 = 4096 →
          ∃ pad, pad < 8 ∧ 8 * out.length = e.nbits + e.width + 12 + 9 + pad ∧
            beNat out = ((written * 2 ^ 12 + 256) * 2 ^ 9 + 257) * 2 ^ pad))

/-- R194: "For every byte sequence `b` and both values of `L_LEADCLR`, `decode(encode(b)) = b`", with no
predictor attached, through any number of width switches and table-full CLEARs. -/
def Obligations.LzwRoundTrip : Prop :=
  ∀ (s : State) (b : List Byte), s.predictor = 1#32 →
    ∃ packed, Codes .lzw .enc s b packed ∧ Codes .lzw .dec s packed b

/-! ## PRED and the chain -/

/-- R227, R221 to R226, R231, R34: a PNG tag 0 to 4 reconstructs the unit in `CUR`: the bytes emitted are related
to the filtered bytes at every index by the tag's filter, `bpp` bytes back for the pixel to the left, `CUR` is
emptied, and `PREV` becomes the row when the row is whole, `W` bytes. `L_COLORS` and `L_BPC` of at least 1 are what
the checks of START leave (R33; Inv.latch_ok). Covers the rows PNGTAG.NONE, SUB, UP, AVG and PAETH. -/
def Obligations.PngRowsReconstructed : Prop :=
  ∀ (s : State) (i : Instr) (f : PngFilter) (tag : Byte) (data prev : List Byte),
    PngDecoding s tag data prev → 1 ≤ s.latch.colors.toNat → 1 ≤ s.latch.bpc.toNat →
    encode i = .pngtag tag →
    (i, f) ∈ [(Instr.pngtagNone00, PngFilter.none), (.pngtagSub01, .sub), (.pngtagUp02, .up),
      (.pngtagAvg03, .average), (.pngtagPaeth04, .paeth)] →
    let W := (s.latch.columns.toNat * s.latch.colors.toNat * s.latch.bpc.toNat + 7) / 8
    let bpp := (s.latch.bpc.toNat * s.latch.colors.toNat + 7) / 8
    ∃ raw, RowFiltered f bpp prev raw data ∧
      exec i s =
        .next { s with
          rows := some { cur := [], prev := if data.length = W then raw else prev }
          out := s.out ++ raw }

/-- R230: a tag of 5 to 255 faults with the tag as the symbol, whatever follows it in the unit. Covers the
BAD rows of PNGTAG. -/
def Obligations.PngBadTagFaults : Prop :=
  ∀ (s : State) (i : Instr) (tag : Byte) (data prev : List Byte), PngDecoding s tag data prev →
    i.wf = true → encode i = .pngtag tag → 5 ≤ tag.toNat →
    exec i s = .next (faultEntry .pngBadTag (tag.setWidth 12) s)

/-- R228, R229, R231, R34: the byte that completes a row of a PNG encode, `W` bytes, sends the tag and the filtered
bytes, related to the row at every index by the tag's filter, `bpp` bytes back for the pixel to the left, and
`PREV` becomes the raw row. -/
def Obligations.PngRowsFiltered : Prop :=
  ∀ (s : State) (cur prev : List Byte) (x : Byte) (tag : Nat) (f : PngFilter), s.phase = .active →
    s.codec = some .pred → s.dir = .enc → s.chain = false → PayloadFits s →
    10 ≤ s.latch.pred.toNat → s.latch.pred.toNat ≤ 15 →
    (s.latch.pred.toNat ≤ 14 → tag = s.latch.pred.toNat - 10) →
    (s.latch.pred.toNat = 15 → tag = s.latch.opttag.toNat) →
    (tag, f) ∈ [(0, PngFilter.none), (1, .sub), (2, .up), (3, .average), (4, .paeth)] →
    s.rows = some { cur := cur, prev := prev } →
    cur.length + 1 = (s.latch.columns.toNat * s.latch.colors.toNat * s.latch.bpc.toNat + 7) / 8 →
    s.inp = [x] →
    let bpp := (s.latch.bpc.toNat * s.latch.colors.toNat + 7) / 8
    ∃ filtered, RowFiltered f bpp prev (cur ++ [x]) filtered ∧
      exec .push s =
        .next { s with
          rows := some { cur := [], prev := cur ++ [x] }, inp := []
          out := BitVec.ofNat 8 tag :: filtered, rsp := 0#32 }

/-- R219, R220, R218: the byte that completes a TIFF row, `W` bytes, sends the row with the raw value of the same
colour in the preceding sample added to every component (decode) or subtracted (encode), and its padding bits as
they were, for components of any width; with 8-bit components that is the byte `L_COLORS` places back, 0 before
the first sample. `PREV` is not used. `L_COLORS` of at least 1 is what the checks of START leave (R33). The packing of
components of other widths is the spec's own decision ("The document gives no packing", R218, D23). -/
def Obligations.TiffRowsOfBytes : Prop :=
  ∀ (s : State) (cur prev : List Byte) (x : Byte), s.phase = .active → s.codec = some .pred →
    s.chain = false → PayloadFits s → s.latch.pred = 2#32 →
    1 ≤ s.latch.colors.toNat → s.rows = some { cur := cur, prev := prev } →
    cur.length + 1 = (s.latch.columns.toNat * s.latch.colors.toNat * s.latch.bpc.toNat + 7) / 8 →
    s.inp = [x] →
    ∃ out, TiffCoded s.dir s.latch.columns.toNat s.latch.colors.toNat s.latch.bpc.toNat (cur ++ [x]) out ∧
      (s.latch.bpc = 8#32 → ∀ k, k < out.length →
        let back (row : List Byte) : Byte :=
          if s.latch.colors.toNat ≤ k then row.getD (k - s.latch.colors.toNat) 0#8 else 0#8
        (s.dir = .dec → out.getD k 0#8 = (cur ++ [x]).getD k 0#8 + back out) ∧
        (s.dir = .enc → out.getD k 0#8 = (cur ++ [x]).getD k 0#8 - back (cur ++ [x]))) ∧
      exec .push s =
        .next { s with rows := some { cur := [], prev := prev }, inp := [], out := out, rsp := 0#32 }

/-- R211, R212, R214, R215, R216, R217, R34: PRED alone. With `L_PRED` = 1 a PUSH answers its payload; a byte that
does not complete the unit, `U` bytes, only joins `CUR`; FINISH on a row boundary answers nothing; a short final row
faults under strict and under lenient is processed as a truncated row: a TIFF row over the components it holds; of a
PNG encode the tag and the filtered bytes; of a PNG decode the reconstructed bytes, or the fault of its tag.
`L_COLORS` and `L_BPC` of at least 1 are what the checks of START leave (R33). -/
def Obligations.PredictorBuffersRows : Prop :=
  ∀ s : State, s.phase = .active → s.codec = some .pred → s.chain = false →
    let W := (s.latch.columns.toNat * s.latch.colors.toNat * s.latch.bpc.toNat + 7) / 8
    let U := if 10 ≤ s.latch.pred.toNat ∧ s.dir = .dec then W + 1 else W
    let bpp := (s.latch.bpc.toNat * s.latch.colors.toNat + 7) / 8
    (s.rows = none → PayloadFits s →
      exec .push s = .next { s with inp := [], out := s.inp, rsp := 0#32 }) ∧
    (s.rows = none →
      exec .finish s =
        .next { s with codec := none, rows := none, phase := .done, rsp := 0#32, out := [] }) ∧
    (∀ cur prev x, s.rows = some { cur := cur, prev := prev } → PayloadFits s → s.inp = [x] →
      cur.length + 1 ≠ U →
      exec .push s =
        .next { s with rows := some { cur := cur ++ [x], prev := prev }, inp := [], out := [], rsp := 0#32 }) ∧
    (∀ prev, s.rows = some { cur := [], prev := prev } →
      exec .finish s =
        .next { s with codec := none, rows := none, phase := .done, rsp := 0#32, out := [] }) ∧
    (∀ x xs prev, s.rows = some { cur := x :: xs, prev := prev } → s.latch.strict = true →
      exec .finish s = .next (faultEntry .predShortRow 0#12 s)) ∧
    (∀ x xs prev, s.rows = some { cur := x :: xs, prev := prev } → s.latch.strict = false →
      1 ≤ s.latch.colors.toNat → 1 ≤ s.latch.bpc.toNat →
      (s.latch.pred = 2#32 →
        ∃ out,
          TiffCoded s.dir s.latch.columns.toNat s.latch.colors.toNat s.latch.bpc.toNat (x :: xs) out ∧
          exec .finish s =
            .next { s with codec := none, rows := none, phase := .done, rsp := 0#32, out := out }) ∧
      (∀ tag f, s.dir = .enc → 10 ≤ s.latch.pred.toNat → s.latch.pred.toNat ≤ 15 →
        (s.latch.pred.toNat ≤ 14 → tag = s.latch.pred.toNat - 10) →
        (s.latch.pred.toNat = 15 → tag = s.latch.opttag.toNat) →
        (tag, f) ∈ [(0, PngFilter.none), (1, .sub), (2, .up), (3, .average), (4, .paeth)] →
        ∃ filtered, RowFiltered f bpp prev (x :: xs) filtered ∧
          exec .finish s =
            .next { s with codec := none, rows := none, phase := .done, rsp := 0#32
                           out := BitVec.ofNat 8 tag :: filtered }) ∧
      (∀ f, s.dir = .dec → 10 ≤ s.latch.pred.toNat →
        (x, f) ∈ [(0#8, PngFilter.none), (1#8, .sub), (2#8, .up), (3#8, .average), (4#8, .paeth)] →
        ∃ raw, RowFiltered f bpp prev raw xs ∧
          exec .finish s =
            .next { s with codec := none, rows := none, phase := .done, rsp := 0#32, out := raw }) ∧
      (s.dir = .dec → 10 ≤ s.latch.pred.toNat → 5 ≤ x.toNat →
        exec .finish s = .next (faultEntry .pngBadTag (x.setWidth 12) s)))

/-- R232: for every legal parameter set and every byte sequence, of any length under lenient strictness and of
whole rows under strict, decoding what PRED encode gives returns it; a PNG stream decodes under every
`PREDICTOR` of 10 to 15; for TIFF the length is unchanged, for PNG one byte is added per row. -/
def Obligations.PredRoundTrip : Prop :=
  ∀ (s : State) (b : List Byte), ParametersLegal s.cfg .pred .enc (latchOf s) →
    let W := (s.columns.toNat * s.colors.toNat * s.bpc.toNat + 7) / 8
    (ctrlStrict s.ctrl = false ∨ W ∣ b.length) →
    ∃ wire, Codes .pred .enc s b wire ∧ Codes .pred .dec s wire b ∧
      (s.predictor.toNat ≤ 2 → wire.length = b.length) ∧
      (10 ≤ s.predictor.toNat →
        wire.length = b.length + (b.length + W - 1) / W ∧
        ∀ p : Word, 10 ≤ p.toNat → p.toNat ≤ 15 → Codes .pred .dec { s with predictor := p } wire b)

/-- R253: a chained LZW invocation gives what the two units give run one after the other, and has a result
exactly when both have: PRED then LZW for encode, LZW then PRED for decode, LZW run with `PREDICTOR` = 1.
The whole sequences are single payloads, so `CHUNK_MAX` is "no limit" here. -/
def Obligations.ChainEqualsTwoUnits : Prop :=
  ∀ (s : State) (b : List Byte), s.cfg.chunkMax = none →
    transcode .lzw .enc b s =
      (transcode .pred .enc b s).bind (fun m => transcode .lzw .enc m { s with predictor := 1#32 }) ∧
    transcode .lzw .dec b s =
      (transcode .lzw .dec b { s with predictor := 1#32 }).bind (fun m => transcode .pred .dec m s)

/-! ## Whole-machine rules -/

/-- R78, R33: a running invocation reads only its latches: with any other values in `PREDICTOR`, `COLORS`,
`BPC`, `COLUMNS` and `CTRL`, PUSH and FINISH in phase ACTIVE do the same to everything else. -/
def Obligations.ParameterWritesDoNotReachInvocation : Prop :=
  ∀ (s t : State) (p c b w k : Word), s.phase = .active →
    (exec .push s = .next t →
      exec .push (withParameters p c b w k s) = .next (withParameters p c b w k t)) ∧
    (exec .finish s = .next t →
      exec .finish (withParameters p c b w k s) = .next (withParameters p c b w k t))

/-- R264: encoders do not fault. A PUSH of any encoder leaves phase ACTIVE; FINISH of an A85, AHX or unchained
LZW encode is DONE; FINISH of a PRED or chained encode faults only with `PRED_SHORT_ROW`, and only under
`L_STRICT` = 1. -/
def Obligations.EncodersNeverFault : Prop :=
  ∀ (s t : State) (c : Codec), s.phase = .active → s.dir = .enc → s.codec = some c →
    ((∃ ebuf, c = .a85Enc ebuf) ∨ c = .ahxEnc ∨ (∃ e, c = .lzwEnc e) ∨ c = .pred) →
    (exec .push s = .next t → t.phase = .active ∨ t.rsp = rejectedWord) ∧
    (exec .finish s = .next t →
      (t.phase = .done ∨
        t.phase = .error ∧ t.errinfo = errinfoWord .predShortRow 0#12 ∧ s.latch.strict = true) ∧
      (((∃ ebuf, c = .a85Enc ebuf) ∨ c = .ahxEnc ∨ (∃ e, c = .lzwEnc e) ∧ s.chain = false) →
        t.phase = .done))

/-- R46, R23, R30, R32, R35, R43: the invariant between transactions holds after reset. -/
def Obligations.ResetInvariant : Prop := Inv State.reset

/-- R46, R23, R30, R32, R35, R43: every step from a state with the invariant leads to a state with it. -/
def Obligations.StepKeepsInvariant : Prop :=
  ∀ s t : State, Inv s → step s = .next t → Inv t
end

