-- ==== Sys2Proof/Laws/State.lean ====
section
/-! SUPPORT. One lemma per field of `State` for every named update, true by `rfl`, so that no proof unfolds a
record update. -/

namespace Sys2Proof.Machine

/-! Emitting changes the output payload and nothing else (R7). -/

@[simp] theorem emitOut_cfg (bytes : List Byte) (s : State) : (emitOut bytes s).cfg = s.cfg := rfl
@[simp] theorem emitOut_predictor (bytes : List Byte) (s : State) : (emitOut bytes s).predictor = s.predictor := rfl
@[simp] theorem emitOut_colors (bytes : List Byte) (s : State) : (emitOut bytes s).colors = s.colors := rfl
@[simp] theorem emitOut_bpc (bytes : List Byte) (s : State) : (emitOut bytes s).bpc = s.bpc := rfl
@[simp] theorem emitOut_columns (bytes : List Byte) (s : State) : (emitOut bytes s).columns = s.columns := rfl
@[simp] theorem emitOut_ctrl (bytes : List Byte) (s : State) : (emitOut bytes s).ctrl = s.ctrl := rfl
@[simp] theorem emitOut_phase (bytes : List Byte) (s : State) : (emitOut bytes s).phase = s.phase := rfl
@[simp] theorem emitOut_unit (bytes : List Byte) (s : State) : (emitOut bytes s).unit = s.unit := rfl
@[simp] theorem emitOut_dir (bytes : List Byte) (s : State) : (emitOut bytes s).dir = s.dir := rfl
@[simp] theorem emitOut_chain (bytes : List Byte) (s : State) : (emitOut bytes s).chain = s.chain := rfl
@[simp] theorem emitOut_fin (bytes : List Byte) (s : State) : (emitOut bytes s).fin = s.fin := rfl
@[simp] theorem emitOut_errkind (bytes : List Byte) (s : State) : (emitOut bytes s).errkind = s.errkind := rfl
@[simp] theorem emitOut_errinfo (bytes : List Byte) (s : State) : (emitOut bytes s).errinfo = s.errinfo := rfl
@[simp] theorem emitOut_rsp (bytes : List Byte) (s : State) : (emitOut bytes s).rsp = s.rsp := rfl
@[simp] theorem emitOut_latch (bytes : List Byte) (s : State) : (emitOut bytes s).latch = s.latch := rfl
@[simp] theorem emitOut_codec (bytes : List Byte) (s : State) : (emitOut bytes s).codec = s.codec := rfl
@[simp] theorem emitOut_rows (bytes : List Byte) (s : State) : (emitOut bytes s).rows = s.rows := rfl
@[simp] theorem emitOut_inp (bytes : List Byte) (s : State) : (emitOut bytes s).inp = s.inp := rfl
@[simp] theorem emitOut_out (bytes : List Byte) (s : State) : (emitOut bytes s).out = s.out ++ bytes := rfl
@[simp] theorem emitOut_rdata (bytes : List Byte) (s : State) : (emitOut bytes s).rdata = s.rdata := rfl
@[simp] theorem emitOut_port (bytes : List Byte) (s : State) : (emitOut bytes s).port = s.port := rfl

/-! Answering changes `RSP` and the payload the host takes (R25, R62). -/

@[simp] theorem respond_cfg (w : Word) (payload : List Byte) (s : State) : (respond w payload s).cfg = s.cfg := rfl
@[simp] theorem respond_predictor (w : Word) (payload : List Byte) (s : State) : (respond w payload s).predictor = s.predictor := rfl
@[simp] theorem respond_colors (w : Word) (payload : List Byte) (s : State) : (respond w payload s).colors = s.colors := rfl
@[simp] theorem respond_bpc (w : Word) (payload : List Byte) (s : State) : (respond w payload s).bpc = s.bpc := rfl
@[simp] theorem respond_columns (w : Word) (payload : List Byte) (s : State) : (respond w payload s).columns = s.columns := rfl
@[simp] theorem respond_ctrl (w : Word) (payload : List Byte) (s : State) : (respond w payload s).ctrl = s.ctrl := rfl
@[simp] theorem respond_phase (w : Word) (payload : List Byte) (s : State) : (respond w payload s).phase = s.phase := rfl
@[simp] theorem respond_unit (w : Word) (payload : List Byte) (s : State) : (respond w payload s).unit = s.unit := rfl
@[simp] theorem respond_dir (w : Word) (payload : List Byte) (s : State) : (respond w payload s).dir = s.dir := rfl
@[simp] theorem respond_chain (w : Word) (payload : List Byte) (s : State) : (respond w payload s).chain = s.chain := rfl
@[simp] theorem respond_fin (w : Word) (payload : List Byte) (s : State) : (respond w payload s).fin = s.fin := rfl
@[simp] theorem respond_errkind (w : Word) (payload : List Byte) (s : State) : (respond w payload s).errkind = s.errkind := rfl
@[simp] theorem respond_errinfo (w : Word) (payload : List Byte) (s : State) : (respond w payload s).errinfo = s.errinfo := rfl
@[simp] theorem respond_rsp (w : Word) (payload : List Byte) (s : State) : (respond w payload s).rsp = w := rfl
@[simp] theorem respond_latch (w : Word) (payload : List Byte) (s : State) : (respond w payload s).latch = s.latch := rfl
@[simp] theorem respond_codec (w : Word) (payload : List Byte) (s : State) : (respond w payload s).codec = s.codec := rfl
@[simp] theorem respond_rows (w : Word) (payload : List Byte) (s : State) : (respond w payload s).rows = s.rows := rfl
@[simp] theorem respond_inp (w : Word) (payload : List Byte) (s : State) : (respond w payload s).inp = s.inp := rfl
@[simp] theorem respond_out (w : Word) (payload : List Byte) (s : State) : (respond w payload s).out = payload := rfl
@[simp] theorem respond_rdata (w : Word) (payload : List Byte) (s : State) : (respond w payload s).rdata = s.rdata := rfl
@[simp] theorem respond_port (w : Word) (payload : List Byte) (s : State) : (respond w payload s).port = s.port := rfl

/-! A rejection changes `RSP` and answers an empty payload (R121). -/

@[simp] theorem reject_cfg (s : State) : (reject s).cfg = s.cfg := rfl
@[simp] theorem reject_predictor (s : State) : (reject s).predictor = s.predictor := rfl
@[simp] theorem reject_colors (s : State) : (reject s).colors = s.colors := rfl
@[simp] theorem reject_bpc (s : State) : (reject s).bpc = s.bpc := rfl
@[simp] theorem reject_columns (s : State) : (reject s).columns = s.columns := rfl
@[simp] theorem reject_ctrl (s : State) : (reject s).ctrl = s.ctrl := rfl
@[simp] theorem reject_phase (s : State) : (reject s).phase = s.phase := rfl
@[simp] theorem reject_unit (s : State) : (reject s).unit = s.unit := rfl
@[simp] theorem reject_dir (s : State) : (reject s).dir = s.dir := rfl
@[simp] theorem reject_chain (s : State) : (reject s).chain = s.chain := rfl
@[simp] theorem reject_fin (s : State) : (reject s).fin = s.fin := rfl
@[simp] theorem reject_errkind (s : State) : (reject s).errkind = s.errkind := rfl
@[simp] theorem reject_errinfo (s : State) : (reject s).errinfo = s.errinfo := rfl
@[simp] theorem reject_rsp (s : State) : (reject s).rsp = rejectedWord := rfl
@[simp] theorem reject_latch (s : State) : (reject s).latch = s.latch := rfl
@[simp] theorem reject_codec (s : State) : (reject s).codec = s.codec := rfl
@[simp] theorem reject_rows (s : State) : (reject s).rows = s.rows := rfl
@[simp] theorem reject_inp (s : State) : (reject s).inp = s.inp := rfl
@[simp] theorem reject_out (s : State) : (reject s).out = [] := rfl
@[simp] theorem reject_rdata (s : State) : (reject s).rdata = s.rdata := rfl
@[simp] theorem reject_port (s : State) : (reject s).port = s.port := rfl

/-! Discarding the codec state changes nothing else (R35). -/

@[simp] theorem discardCodec_cfg (s : State) : (discardCodec s).cfg = s.cfg := rfl
@[simp] theorem discardCodec_predictor (s : State) : (discardCodec s).predictor = s.predictor := rfl
@[simp] theorem discardCodec_colors (s : State) : (discardCodec s).colors = s.colors := rfl
@[simp] theorem discardCodec_bpc (s : State) : (discardCodec s).bpc = s.bpc := rfl
@[simp] theorem discardCodec_columns (s : State) : (discardCodec s).columns = s.columns := rfl
@[simp] theorem discardCodec_ctrl (s : State) : (discardCodec s).ctrl = s.ctrl := rfl
@[simp] theorem discardCodec_phase (s : State) : (discardCodec s).phase = s.phase := rfl
@[simp] theorem discardCodec_unit (s : State) : (discardCodec s).unit = s.unit := rfl
@[simp] theorem discardCodec_dir (s : State) : (discardCodec s).dir = s.dir := rfl
@[simp] theorem discardCodec_chain (s : State) : (discardCodec s).chain = s.chain := rfl
@[simp] theorem discardCodec_fin (s : State) : (discardCodec s).fin = s.fin := rfl
@[simp] theorem discardCodec_errkind (s : State) : (discardCodec s).errkind = s.errkind := rfl
@[simp] theorem discardCodec_errinfo (s : State) : (discardCodec s).errinfo = s.errinfo := rfl
@[simp] theorem discardCodec_rsp (s : State) : (discardCodec s).rsp = s.rsp := rfl
@[simp] theorem discardCodec_latch (s : State) : (discardCodec s).latch = s.latch := rfl
@[simp] theorem discardCodec_codec (s : State) : (discardCodec s).codec = none := rfl
@[simp] theorem discardCodec_rows (s : State) : (discardCodec s).rows = none := rfl
@[simp] theorem discardCodec_inp (s : State) : (discardCodec s).inp = s.inp := rfl
@[simp] theorem discardCodec_out (s : State) : (discardCodec s).out = s.out := rfl
@[simp] theorem discardCodec_rdata (s : State) : (discardCodec s).rdata = s.rdata := rfl
@[simp] theorem discardCodec_port (s : State) : (discardCodec s).port = s.port := rfl

/-! What taking a fault changes (R268). -/

@[simp] theorem faultEntry_cfg (cause : Cause) (sym : Code) (s : State) : (faultEntry cause sym s).cfg = s.cfg := rfl
@[simp] theorem faultEntry_predictor (cause : Cause) (sym : Code) (s : State) : (faultEntry cause sym s).predictor = s.predictor := rfl
@[simp] theorem faultEntry_colors (cause : Cause) (sym : Code) (s : State) : (faultEntry cause sym s).colors = s.colors := rfl
@[simp] theorem faultEntry_bpc (cause : Cause) (sym : Code) (s : State) : (faultEntry cause sym s).bpc = s.bpc := rfl
@[simp] theorem faultEntry_columns (cause : Cause) (sym : Code) (s : State) : (faultEntry cause sym s).columns = s.columns := rfl
@[simp] theorem faultEntry_ctrl (cause : Cause) (sym : Code) (s : State) : (faultEntry cause sym s).ctrl = s.ctrl := rfl
@[simp] theorem faultEntry_phase (cause : Cause) (sym : Code) (s : State) : (faultEntry cause sym s).phase = .error := rfl
@[simp] theorem faultEntry_unit (cause : Cause) (sym : Code) (s : State) : (faultEntry cause sym s).unit = s.unit := rfl
@[simp] theorem faultEntry_dir (cause : Cause) (sym : Code) (s : State) : (faultEntry cause sym s).dir = s.dir := rfl
@[simp] theorem faultEntry_chain (cause : Cause) (sym : Code) (s : State) : (faultEntry cause sym s).chain = s.chain := rfl
@[simp] theorem faultEntry_fin (cause : Cause) (sym : Code) (s : State) : (faultEntry cause sym s).fin = s.fin := rfl
@[simp] theorem faultEntry_errkind (cause : Cause) (sym : Code) (s : State) : (faultEntry cause sym s).errkind = cause.kind := rfl
@[simp] theorem faultEntry_errinfo (cause : Cause) (sym : Code) (s : State) : (faultEntry cause sym s).errinfo = errinfoWord cause sym := rfl
@[simp] theorem faultEntry_rsp (cause : Cause) (sym : Code) (s : State) : (faultEntry cause sym s).rsp = errorWord cause sym := rfl
@[simp] theorem faultEntry_latch (cause : Cause) (sym : Code) (s : State) : (faultEntry cause sym s).latch = s.latch := rfl
@[simp] theorem faultEntry_codec (cause : Cause) (sym : Code) (s : State) : (faultEntry cause sym s).codec = none := rfl
@[simp] theorem faultEntry_rows (cause : Cause) (sym : Code) (s : State) : (faultEntry cause sym s).rows = none := rfl
@[simp] theorem faultEntry_inp (cause : Cause) (sym : Code) (s : State) : (faultEntry cause sym s).inp = s.inp := rfl
@[simp] theorem faultEntry_out (cause : Cause) (sym : Code) (s : State) : (faultEntry cause sym s).out = [] := rfl
@[simp] theorem faultEntry_rdata (cause : Cause) (sym : Code) (s : State) : (faultEntry cause sym s).rdata = s.rdata := rfl
@[simp] theorem faultEntry_port (cause : Cause) (sym : Code) (s : State) : (faultEntry cause sym s).port = s.port := rfl

/-! What clears a standing fault (R123, R134). -/

@[simp] theorem clearFault_cfg (s : State) : (clearFault s).cfg = s.cfg := rfl
@[simp] theorem clearFault_predictor (s : State) : (clearFault s).predictor = s.predictor := rfl
@[simp] theorem clearFault_colors (s : State) : (clearFault s).colors = s.colors := rfl
@[simp] theorem clearFault_bpc (s : State) : (clearFault s).bpc = s.bpc := rfl
@[simp] theorem clearFault_columns (s : State) : (clearFault s).columns = s.columns := rfl
@[simp] theorem clearFault_ctrl (s : State) : (clearFault s).ctrl = s.ctrl := rfl
@[simp] theorem clearFault_phase (s : State) : (clearFault s).phase = s.phase := rfl
@[simp] theorem clearFault_unit (s : State) : (clearFault s).unit = s.unit := rfl
@[simp] theorem clearFault_dir (s : State) : (clearFault s).dir = s.dir := rfl
@[simp] theorem clearFault_chain (s : State) : (clearFault s).chain = s.chain := rfl
@[simp] theorem clearFault_fin (s : State) : (clearFault s).fin = false := rfl
@[simp] theorem clearFault_errkind (s : State) : (clearFault s).errkind = .noError := rfl
@[simp] theorem clearFault_errinfo (s : State) : (clearFault s).errinfo = 0#32 := rfl
@[simp] theorem clearFault_rsp (s : State) : (clearFault s).rsp = s.rsp := rfl
@[simp] theorem clearFault_latch (s : State) : (clearFault s).latch = s.latch := rfl
@[simp] theorem clearFault_codec (s : State) : (clearFault s).codec = s.codec := rfl
@[simp] theorem clearFault_rows (s : State) : (clearFault s).rows = s.rows := rfl
@[simp] theorem clearFault_inp (s : State) : (clearFault s).inp = s.inp := rfl
@[simp] theorem clearFault_out (s : State) : (clearFault s).out = s.out := rfl
@[simp] theorem clearFault_rdata (s : State) : (clearFault s).rdata = s.rdata := rfl
@[simp] theorem clearFault_port (s : State) : (clearFault s).port = s.port := rfl

/-! What presenting a payload changes (R61). -/

@[simp] theorem present_cfg (payload : List Byte) (rest : List PortOp) (s : State) : (present payload rest s).cfg = s.cfg := rfl
@[simp] theorem present_predictor (payload : List Byte) (rest : List PortOp) (s : State) : (present payload rest s).predictor = s.predictor := rfl
@[simp] theorem present_colors (payload : List Byte) (rest : List PortOp) (s : State) : (present payload rest s).colors = s.colors := rfl
@[simp] theorem present_bpc (payload : List Byte) (rest : List PortOp) (s : State) : (present payload rest s).bpc = s.bpc := rfl
@[simp] theorem present_columns (payload : List Byte) (rest : List PortOp) (s : State) : (present payload rest s).columns = s.columns := rfl
@[simp] theorem present_ctrl (payload : List Byte) (rest : List PortOp) (s : State) : (present payload rest s).ctrl = s.ctrl := rfl
@[simp] theorem present_phase (payload : List Byte) (rest : List PortOp) (s : State) : (present payload rest s).phase = s.phase := rfl
@[simp] theorem present_unit (payload : List Byte) (rest : List PortOp) (s : State) : (present payload rest s).unit = s.unit := rfl
@[simp] theorem present_dir (payload : List Byte) (rest : List PortOp) (s : State) : (present payload rest s).dir = s.dir := rfl
@[simp] theorem present_chain (payload : List Byte) (rest : List PortOp) (s : State) : (present payload rest s).chain = s.chain := rfl
@[simp] theorem present_fin (payload : List Byte) (rest : List PortOp) (s : State) : (present payload rest s).fin = s.fin := rfl
@[simp] theorem present_errkind (payload : List Byte) (rest : List PortOp) (s : State) : (present payload rest s).errkind = s.errkind := rfl
@[simp] theorem present_errinfo (payload : List Byte) (rest : List PortOp) (s : State) : (present payload rest s).errinfo = s.errinfo := rfl
@[simp] theorem present_rsp (payload : List Byte) (rest : List PortOp) (s : State) : (present payload rest s).rsp = s.rsp := rfl
@[simp] theorem present_latch (payload : List Byte) (rest : List PortOp) (s : State) : (present payload rest s).latch = s.latch := rfl
@[simp] theorem present_codec (payload : List Byte) (rest : List PortOp) (s : State) : (present payload rest s).codec = s.codec := rfl
@[simp] theorem present_rows (payload : List Byte) (rest : List PortOp) (s : State) : (present payload rest s).rows = s.rows := rfl
@[simp] theorem present_inp (payload : List Byte) (rest : List PortOp) (s : State) : (present payload rest s).inp = payload := rfl
@[simp] theorem present_out (payload : List Byte) (rest : List PortOp) (s : State) : (present payload rest s).out = s.out := rfl
@[simp] theorem present_rdata (payload : List Byte) (rest : List PortOp) (s : State) : (present payload rest s).rdata = s.rdata := rfl
@[simp] theorem present_port (payload : List Byte) (rest : List PortOp) (s : State) : (present payload rest s).port = rest := rfl

/-! What START writes before its checks (R123, R33). -/

@[simp] theorem startLatch_cfg (u : CodecUnit) (d : Direction) (s : State) : (startLatch u d s).cfg = s.cfg := rfl
@[simp] theorem startLatch_predictor (u : CodecUnit) (d : Direction) (s : State) : (startLatch u d s).predictor = s.predictor := rfl
@[simp] theorem startLatch_colors (u : CodecUnit) (d : Direction) (s : State) : (startLatch u d s).colors = s.colors := rfl
@[simp] theorem startLatch_bpc (u : CodecUnit) (d : Direction) (s : State) : (startLatch u d s).bpc = s.bpc := rfl
@[simp] theorem startLatch_columns (u : CodecUnit) (d : Direction) (s : State) : (startLatch u d s).columns = s.columns := rfl
@[simp] theorem startLatch_ctrl (u : CodecUnit) (d : Direction) (s : State) : (startLatch u d s).ctrl = s.ctrl := rfl
@[simp] theorem startLatch_phase (u : CodecUnit) (d : Direction) (s : State) : (startLatch u d s).phase = s.phase := rfl
@[simp] theorem startLatch_unit (u : CodecUnit) (d : Direction) (s : State) : (startLatch u d s).unit = u := rfl
@[simp] theorem startLatch_dir (u : CodecUnit) (d : Direction) (s : State) : (startLatch u d s).dir = d := rfl
@[simp] theorem startLatch_chain (u : CodecUnit) (d : Direction) (s : State) : (startLatch u d s).chain = (u == .lzw && (latchOf s).pred != 1#32) := rfl
@[simp] theorem startLatch_fin (u : CodecUnit) (d : Direction) (s : State) : (startLatch u d s).fin = false := rfl
@[simp] theorem startLatch_errkind (u : CodecUnit) (d : Direction) (s : State) : (startLatch u d s).errkind = .noError := rfl
@[simp] theorem startLatch_errinfo (u : CodecUnit) (d : Direction) (s : State) : (startLatch u d s).errinfo = 0#32 := rfl
@[simp] theorem startLatch_rsp (u : CodecUnit) (d : Direction) (s : State) : (startLatch u d s).rsp = s.rsp := rfl
@[simp] theorem startLatch_latch (u : CodecUnit) (d : Direction) (s : State) : (startLatch u d s).latch = latchOf s := rfl
@[simp] theorem startLatch_codec (u : CodecUnit) (d : Direction) (s : State) : (startLatch u d s).codec = none := rfl
@[simp] theorem startLatch_rows (u : CodecUnit) (d : Direction) (s : State) : (startLatch u d s).rows = none := rfl
@[simp] theorem startLatch_inp (u : CodecUnit) (d : Direction) (s : State) : (startLatch u d s).inp = s.inp := rfl
@[simp] theorem startLatch_out (u : CodecUnit) (d : Direction) (s : State) : (startLatch u d s).out = s.out := rfl
@[simp] theorem startLatch_rdata (u : CodecUnit) (d : Direction) (s : State) : (startLatch u d s).rdata = s.rdata := rfl
@[simp] theorem startLatch_port (u : CodecUnit) (d : Direction) (s : State) : (startLatch u d s).port = s.port := rfl

/-! What the reset input leaves (R290). -/

@[simp] theorem resetBlock_cfg (s : State) : (resetBlock s).cfg = s.cfg := rfl
@[simp] theorem resetBlock_predictor (s : State) : (resetBlock s).predictor = State.reset.predictor := rfl
@[simp] theorem resetBlock_colors (s : State) : (resetBlock s).colors = State.reset.colors := rfl
@[simp] theorem resetBlock_bpc (s : State) : (resetBlock s).bpc = State.reset.bpc := rfl
@[simp] theorem resetBlock_columns (s : State) : (resetBlock s).columns = State.reset.columns := rfl
@[simp] theorem resetBlock_ctrl (s : State) : (resetBlock s).ctrl = State.reset.ctrl := rfl
@[simp] theorem resetBlock_phase (s : State) : (resetBlock s).phase = State.reset.phase := rfl
@[simp] theorem resetBlock_unit (s : State) : (resetBlock s).unit = State.reset.unit := rfl
@[simp] theorem resetBlock_dir (s : State) : (resetBlock s).dir = State.reset.dir := rfl
@[simp] theorem resetBlock_chain (s : State) : (resetBlock s).chain = State.reset.chain := rfl
@[simp] theorem resetBlock_fin (s : State) : (resetBlock s).fin = State.reset.fin := rfl
@[simp] theorem resetBlock_errkind (s : State) : (resetBlock s).errkind = State.reset.errkind := rfl
@[simp] theorem resetBlock_errinfo (s : State) : (resetBlock s).errinfo = State.reset.errinfo := rfl
@[simp] theorem resetBlock_rsp (s : State) : (resetBlock s).rsp = State.reset.rsp := rfl
@[simp] theorem resetBlock_latch (s : State) : (resetBlock s).latch = State.reset.latch := rfl
@[simp] theorem resetBlock_codec (s : State) : (resetBlock s).codec = State.reset.codec := rfl
@[simp] theorem resetBlock_rows (s : State) : (resetBlock s).rows = State.reset.rows := rfl
@[simp] theorem resetBlock_inp (s : State) : (resetBlock s).inp = State.reset.inp := rfl
@[simp] theorem resetBlock_out (s : State) : (resetBlock s).out = State.reset.out := rfl
@[simp] theorem resetBlock_rdata (s : State) : (resetBlock s).rdata = State.reset.rdata := rfl
@[simp] theorem resetBlock_port (s : State) : (resetBlock s).port = s.port := rfl

end Sys2Proof.Machine
end

