-- ==== Sys2Proof/Laws/Ops.lean ====
section
/-! SUPPORT. What each shared operation can do, said once: a rule of a transaction either goes on (`Runs`) or
faults (`Faults`), and keeps every register either way. Callers cite these and unfold nothing. -/

namespace Sys2Proof.Machine

/-! ## The frame of a transaction's rules -/

theorem KeepsRegisters.refl (s : State) : KeepsRegisters s s := by simp [KeepsRegisters]

theorem KeepsRegisters.trans {s t u : State} (h : KeepsRegisters s t) (k : KeepsRegisters t u) :
    KeepsRegisters s u := by
  simp only [KeepsRegisters] at *
  simp_all

/-- What a rule does inside a transaction that goes on: the phase, the fault words and `RSP` stand, codec
state and buffers stay present or absent, a set `fin` stays set, and output is only appended. -/
structure Runs (s t : State) : Prop where
  keeps : KeepsRegisters s t
  inp : t.inp = s.inp
  phase : t.phase = s.phase
  errkind : t.errkind = s.errkind
  errinfo : t.errinfo = s.errinfo
  rsp : t.rsp = s.rsp
  codec : t.codec.isSome = s.codec.isSome
  rows : t.rows.isSome = s.rows.isSome
  fin : s.fin = true → t.fin = true
  out : s.out <+: t.out

/-- What a rule that faults leaves: the entry sequence of R268 after rules that kept every register. -/
structure Faults (s t : State) : Prop where
  keeps : KeepsRegisters s t
  inp : t.inp = s.inp
  fin : s.fin = true → t.fin = true
  entry : ∃ cause sym u, t = faultEntry cause sym u

/-- Everything a rule of a transaction can do. -/
def Rules (s t : State) : Prop := Runs s t ∨ Faults s t

theorem Runs.refl (s : State) : Runs s s :=
  ⟨.refl s, rfl, rfl, rfl, rfl, rfl, rfl, rfl, id, List.prefix_rfl⟩

theorem Runs.trans {s t u : State} (h : Runs s t) (k : Runs t u) : Runs s u :=
  ⟨h.keeps.trans k.keeps, k.inp.trans h.inp, k.phase.trans h.phase, k.errkind.trans h.errkind,
    k.errinfo.trans h.errinfo, k.rsp.trans h.rsp, k.codec.trans h.codec, k.rows.trans h.rows,
    fun x => k.fin (h.fin x), h.out.trans k.out⟩

theorem Runs.faults {s t u : State} (h : Runs s t) (k : Faults t u) : Faults s u :=
  ⟨h.keeps.trans k.keeps, k.inp.trans h.inp, fun x => k.fin (h.fin x), k.entry⟩

theorem Runs.rules {s t u : State} (h : Runs s t) (k : Rules t u) : Rules s u :=
  k.imp h.trans h.faults

theorem faults_faultEntry (cause : Cause) (sym : Code) (s : State) : Faults s (faultEntry cause sym s) :=
  ⟨by simp [KeepsRegisters], rfl, id, cause, sym, s, rfl⟩

theorem Faults.phase {s t : State} (h : Faults s t) : t.phase = .error := by
  obtain ⟨_, _, _, rfl⟩ := h.entry
  rfl

/-- A rule leaves phase ACTIVE, or phase ERROR. -/
theorem Rules.phase {s t : State} (h : Rules s t) (a : s.phase = .active) :
    t.phase = .active ∨ t.phase = .error :=
  h.imp (fun r => r.phase.trans a) Faults.phase

/-- A rule that leaves phase ACTIVE did not fault. -/
theorem Rules.runs {s t : State} (h : Rules s t) (a : t.phase = .active) : Runs s t :=
  h.elim id fun f => absurd (f.phase.symm.trans a) (by decide)

theorem runs_emitOut (bytes : List Byte) (s : State) : Runs s (emitOut bytes s) :=
  ⟨by simp [KeepsRegisters], rfl, rfl, rfl, rfl, rfl, rfl, rfl, id, by simp⟩

/-- Replacing a codec state, `fin` growing. -/
theorem runs_codec (s : State) (c : Codec) (h : s.codec ≠ none) (f : Bool) :
    Runs s { s with codec := some c, fin := s.fin || f } :=
  ⟨by simp [KeepsRegisters], rfl, rfl, rfl, rfl, rfl, by simp [Option.isSome_iff_ne_none.2 h], rfl,
    by simp +contextual, List.prefix_rfl⟩

theorem runs_codec' (s : State) (c : Codec) (h : s.codec ≠ none) : Runs s { s with codec := some c } := by
  simpa using runs_codec s c h false

theorem runs_rows (s : State) (r : Rows) (h : s.rows ≠ none) : Runs s { s with rows := some r } :=
  ⟨by simp [KeepsRegisters], rfl, rfl, rfl, rfl, rfl, rfl, by simp [Option.isSome_iff_ne_none.2 h],
    id, List.prefix_rfl⟩

/-! ## One lemma per shared operation: everything it can do -/

@[simp] theorem applyAnswer_raise {σ : Type} (wrap : σ → Codec) (cause : Cause) (sym : Code) (s : State) :
    applyAnswer wrap (.raise cause sym) s = faultEntry cause sym s := rfl

@[simp] theorem applyAnswer_emit {σ : Type} (wrap : σ → Codec) (st : σ) (bytes : List Byte) (term : Bool)
    (s : State) :
    applyAnswer wrap (.emit st bytes term) s =
      { s with codec := some (wrap st), fin := s.fin || term, out := s.out ++ bytes } := rfl

@[simp] theorem rowAnswer_raise (cause : Cause) (sym : Code) (s : State) :
    rowAnswer (.raise cause sym) s = faultEntry cause sym s := rfl

@[simp] theorem rowAnswer_emit (prev bytes : List Byte) (term : Bool) (s : State) :
    rowAnswer (.emit prev bytes term) s =
      predSink bytes { s with rows := some { cur := [], prev := prev } } := rfl

@[simp] theorem lzwAnswer_raise (cause : Cause) (sym : Code) (s : State) :
    lzwAnswer (.raise cause sym) s = faultEntry cause sym s := rfl

@[simp] theorem lzwAnswer_emit (d : LzwDec) (bytes : List Byte) (term : Bool) (s : State) :
    lzwAnswer (.emit d bytes term) s =
      lzwDecSink bytes { s with codec := some (.lzwDec d), fin := s.fin || term } := rfl

theorem applyAnswer_rules {σ : Type} (wrap : σ → Codec) (a : Answer σ) (s : State) (h : s.codec ≠ none) :
    Rules s (applyAnswer wrap a s) := by
  cases a with
  | raise cause sym => exact .inr (faults_faultEntry cause sym s)
  | emit st bytes term => exact .inl ((runs_codec s (wrap st) h term).trans (runs_emitOut bytes _))

theorem lzwEncFeed_runs (b : Byte) (s : State) : Runs s (lzwEncFeed b s) := by
  unfold lzwEncFeed
  split
  · exact (runs_codec' s _ (by simp [*])).trans (runs_emitOut _ _)
  · exact .refl s

theorem foldl_lzwEncFeed_runs (bytes : List Byte) (s : State) :
    Runs s (bytes.foldl (fun t b => lzwEncFeed b t) s) := by
  induction bytes generalizing s with
  | nil => exact .refl s
  | cons b bs ih => exact (lzwEncFeed_runs b s).trans (ih _)

theorem predSink_runs (bytes : List Byte) (s : State) : Runs s (predSink bytes s) := by
  unfold predSink
  split
  · exact foldl_lzwEncFeed_runs bytes s
  · exact runs_emitOut bytes s

theorem rowAnswer_rules (a : Answer (List Byte)) (s : State) (h : s.rows ≠ none) :
    Rules s (rowAnswer a s) := by
  cases a with
  | raise cause sym => exact .inr (faults_faultEntry cause sym s)
  | emit prev bytes term => exact .inl ((runs_rows s _ h).trans (predSink_runs bytes _))

theorem predByte_rules (x : Byte) (s : State) : Rules s (predByte x s) := by
  unfold predByte
  split
  · exact .inl (predSink_runs _ s)
  · dsimp only
    split
    · exact rowAnswer_rules _ s (by simp [*])
    · exact .inl (runs_rows s _ (by simp [*]))

@[simp] theorem predFeed_nil (s : State) : predFeed [] s = s := rfl

/-- Once a fault has ended the transaction nothing more is fed. -/
theorem predFeed_inactive (bytes : List Byte) (s : State) (h : s.phase ≠ .active) :
    predFeed bytes s = s := by
  cases bytes with
  | nil => rfl
  | cons b bs => exact if_neg h

theorem predFeed_append (xs ys : List Byte) (s : State) :
    predFeed (xs ++ ys) s = predFeed ys (predFeed xs s) := by
  induction xs generalizing s with
  | nil => rfl
  | cons x xs ih =>
    by_cases h : s.phase = .active
    · simp only [List.cons_append, predFeed, if_pos h, ih]
    · rw [predFeed_inactive _ s h, predFeed_inactive _ s h, predFeed_inactive _ s h]

theorem predFeed_rules (bytes : List Byte) (s : State) : Rules s (predFeed bytes s) := by
  induction bytes generalizing s with
  | nil => exact .inl (.refl s)
  | cons x xs ih =>
    unfold predFeed
    split
    · obtain h | h := predByte_rules x s
      · exact h.rules (ih _)
      · rw [predFeed_inactive xs _ (by simp [h.phase])]
        exact .inr h
    · exact .inl (.refl s)

theorem predFinish_rules (s : State) : Rules s (predFinish s) := by
  unfold predFinish
  split
  · exact .inl (.refl s)
  · split
    · exact .inl (.refl s)
    · split
      · exact .inr (faults_faultEntry _ _ s)
      · exact rowAnswer_rules _ s (by simp [*])

theorem lzwDecSink_rules (bytes : List Byte) (s : State) : Rules s (lzwDecSink bytes s) := by
  unfold lzwDecSink
  split
  · exact predFeed_rules bytes s
  · exact .inl (runs_emitOut bytes s)

theorem lzwAnswer_rules (a : Answer LzwDec) (s : State) (h : s.codec ≠ none) : Rules s (lzwAnswer a s) := by
  cases a with
  | raise cause sym => exact .inr (faults_faultEntry cause sym s)
  | emit d bytes term => exact (runs_codec s (.lzwDec d) h term).rules (lzwDecSink_rules bytes _)

theorem lzwDecByte_rules (b : Byte) (d : LzwDec) (s : State) (h : s.codec ≠ none) :
    Rules s (lzwDecByte b d s) := by
  unfold lzwDecByte
  split
  · exact .inl (runs_codec' s _ h)
  · exact lzwAnswer_rules _ s h

/-- One byte of a PUSH, in any invocation. -/
theorem byteStep_rules (b : Byte) (s : State) : Rules s (byteStep b s) := by
  unfold byteStep
  split
  · exact .inl (.refl s)
  · exact .inl ((runs_codec' s _ (by simp [*])).trans (runs_emitOut _ _))
  · split
    · exact .inl (.refl s)
    · exact applyAnswer_rules _ _ s (by simp [*])
  · exact .inl (runs_emitOut _ s)
  · split
    · exact .inl (.refl s)
    · exact applyAnswer_rules _ _ s (by simp [*])
  · split
    · exact .inl (.refl s)
    · exact lzwDecByte_rules b _ s (by simp [*])
  · split
    · exact predByte_rules b s
    · exact .inl (lzwEncFeed_runs b s)
  · exact predByte_rules b s

@[simp] theorem pushBytes_nil (s : State) : pushBytes [] s = s := rfl

theorem pushBytes_inactive (bytes : List Byte) (s : State) (h : s.phase ≠ .active) :
    pushBytes bytes s = s := by
  cases bytes with
  | nil => rfl
  | cons b bs => exact if_neg h

theorem pushBytes_append (xs ys : List Byte) (s : State) :
    pushBytes (xs ++ ys) s = pushBytes ys (pushBytes xs s) := by
  induction xs generalizing s with
  | nil => rfl
  | cons x xs ih =>
    by_cases h : s.phase = .active
    · simp only [List.cons_append, pushBytes, if_pos h, ih]
    · rw [pushBytes_inactive _ s h, pushBytes_inactive _ s h, pushBytes_inactive _ s h]

theorem pushBytes_rules (bytes : List Byte) (s : State) : Rules s (pushBytes bytes s) := by
  induction bytes generalizing s with
  | nil => exact .inl (.refl s)
  | cons x xs ih =>
    unfold pushBytes
    split
    · obtain h | h := byteStep_rules x s
      · exact h.rules (ih _)
      · rw [pushBytes_inactive xs _ (by simp [h.phase])]
        exact .inr h
    · exact .inl (.refl s)

theorem openStream_runs (s : State) : Runs s (openStream s) := by
  unfold openStream
  split
  · exact (runs_codec' s _ (by simp [*])).trans (runs_emitOut _ _)
  · exact .refl s

theorem lzwEncFlush_runs (s : State) : Runs s (lzwEncFlush s) := by
  unfold lzwEncFlush
  split
  · exact (runs_codec' s _ (by simp [*])).trans (runs_emitOut _ _)
  · exact .refl s

theorem a85DecFinish_rules (s : State) : Rules s (a85DecFinish s) := by
  unfold a85DecFinish
  split
  · exact .inl (.refl s)
  · exact .inr (faults_faultEntry _ _ s)

theorem ahxDecFinish_rules (d : AhxDec) (s : State) : Rules s (ahxDecFinish d s) := by
  unfold ahxDecFinish
  split
  · exact .inl (.refl s)
  · split <;> exact .inr (faults_faultEntry _ _ s)

theorem lzwDecFinish_rules (d : LzwDec) (s : State) : Rules s (lzwDecFinish d s) := by
  unfold lzwDecFinish
  split
  · exact .inl (.refl s)
  · split <;> exact .inr (faults_faultEntry _ _ s)

/-- A second stage after a first (R251, R252). -/
theorem unlessFaulted_rules (f : State → State) {s t : State} (h : Rules s t)
    (hf : ∀ u, Rules u (f u)) : Rules s (unlessFaulted f t) := by
  unfold unlessFaulted
  split
  · exact (h.runs ‹_›).rules (hf t)
  · exact h

/-- The FINISH rules of any invocation. -/
theorem finishStages_rules (s : State) : Rules s (finishStages s) := by
  unfold finishStages
  split
  · exact .inl (.refl s)
  · exact .inl (runs_emitOut _ s)
  · exact a85DecFinish_rules s
  · exact .inl (runs_emitOut _ s)
  · exact ahxDecFinish_rules _ s
  · split
    · exact unlessFaulted_rules _ (lzwDecFinish_rules _ s) predFinish_rules
    · exact lzwDecFinish_rules _ s
  · split
    · exact unlessFaulted_rules _ ((openStream_runs s).rules (predFinish_rules _))
        fun u => .inl (lzwEncFlush_runs u)
    · exact .inl ((openStream_runs s).trans (lzwEncFlush_runs _))
  · exact predFinish_rules s

/-! ## Commands -/

/-- Everything PUSH can do in phase ACTIVE (R132). -/
theorem pushActive_cases (s : State) :
    ∃ t, Rules { s with out := [] } t ∧
      pushActive s = if t.phase = .active then { t with inp := [], rsp := okWord } else { t with inp := [] } := by
  refine ⟨_, (openStream_runs _).rules (pushBytes_rules s.inp _), ?_⟩
  unfold pushActive
  dsimp only
  split <;> rfl

/-- Everything FINISH can do in phase ACTIVE (R133). -/
theorem finishActive_cases (s : State) :
    ∃ t, Rules { s with out := [] } t ∧
      finishActive s =
        if t.phase = .active then { t with codec := none, rows := none, phase := .done, rsp := okWord }
        else t := by
  refine ⟨_, finishStages_rules _, ?_⟩
  unfold finishActive
  dsimp only
  split <;> rfl

/-- START with checks that pass or fail (R123, R33). -/
theorem startWith_cases (unit : CodecUnit) (dir : Direction) (create : Latches → Codec) (s : State) :
    startWith unit dir create s =
      if startChecks s.cfg unit dir (latchOf s) then
        { startLatch unit dir s with
          codec := some (create (latchOf s)), rows := startRows unit (latchOf s), phase := .active
          rsp := okWord, out := [] }
      else faultEntry .cfgInvalid 0#12 (startLatch unit dir s) := rfl

/-- What PUSH answers. -/
theorem execPush_cases (s : State) :
    execPush s = .next (reject s) ∨ execPush s = .next (pushActive s) ∨ execPush s = .fault .codecAbsent := by
  unfold execPush
  split
  · exact .inl rfl
  · split
    · exact .inr (.inl rfl)
    · exact .inr (.inr rfl)

/-- What FINISH answers. -/
theorem execFinish_cases (s : State) :
    execFinish s = .next (reject s) ∨ execFinish s = .next (finishActive s) ∨
      execFinish s = .fault .codecAbsent := by
  unfold execFinish
  split
  · exact .inl rfl
  · split
    · exact .inr (.inl rfl)
    · exact .inr (.inr rfl)

end Sys2Proof.Machine
end

