-- ==== Sys2Proof/Laws/Data.lean ====
section
/-! SUPPORT. What the helpers on data do: big-endian numbers, base-85 digits, hex digits, bit strings, and that
the row rules of one direction undo those of the other. -/

namespace Sys2Proof.Machine

/-! ## Big-endian numbers (R6) -/

@[simp] theorem beNat_nil : beNat [] = 0 := rfl

theorem foldl_beNat (bs : List Byte) (v : Nat) :
    bs.foldl (fun v b => v * 256 + b.toNat) v = v * 256 ^ bs.length + beNat bs := by
  induction bs generalizing v with
  | nil => simp [beNat]
  | cons b bs ih =>
    rw [List.foldl_cons, ih, show beNat (b :: bs) = bs.foldl (fun v b => v * 256 + b.toNat) (0 * 256 + b.toNat) from rfl,
      ih, List.length_cons]
    ring

theorem beNat_cons (b : Byte) (bs : List Byte) : beNat (b :: bs) = b.toNat * 256 ^ bs.length + beNat bs := by
  simpa [beNat] using foldl_beNat bs b.toNat

theorem beNat_append (as bs : List Byte) :
    beNat (as ++ bs) = beNat as * 256 ^ bs.length + beNat bs := by
  rw [beNat, List.foldl_append, foldl_beNat]
  rfl

theorem beNat_lt (bs : List Byte) : beNat bs < 256 ^ bs.length := by
  induction bs with
  | nil => simp
  | cons b bs ih =>
    rw [beNat_cons, List.length_cons, pow_succ]
    have := b.isLt
    nlinarith

@[simp] theorem be32_length (v : Nat) : (be32 v).length = 4 := rfl

/-- `be` undoes `BE32` on 32-bit numbers (R6). -/
theorem beNat_be32 {v : Nat} (h : v < 2 ^ 32) : beNat (be32 v) = v := by
  simp only [be32, beNat_cons, List.length_cons, List.length_nil, beNat_nil, BitVec.toNat_ofNat]
  omega

/-- `BE32` undoes `be` on four bytes (R6). -/
theorem be32_beNat (b0 b1 b2 b3 : Byte) : be32 (beNat [b0, b1, b2, b3]) = [b0, b1, b2, b3] := by
  simp only [be32, beNat_cons, List.length_cons, List.length_nil, beNat_nil, List.cons.injEq, and_true]
  have h0 := b0.isLt
  have h1 := b1.isLt
  have h2 := b2.isLt
  have h3 := b3.isLt
  refine ⟨?_, ?_, ?_, ?_⟩ <;> apply BitVec.eq_of_toNat_eq <;> rw [BitVec.toNat_ofNat] <;> omega

/-! ## Base-85 groups (R140) -/

@[simp] theorem digits85_length (v : Nat) : (digits85 v).length = 5 := rfl

@[simp] theorem chars85_length (v : Nat) : (chars85 v).length = 5 := rfl

theorem digits85_lt (v : Nat) : ∀ d ∈ digits85 v, d < 85 := by
  simp [digits85, Nat.mod_lt]

theorem value85_five (d0 d1 d2 d3 d4 : Nat) :
    value85 [d0, d1, d2, d3, d4] = d0 * 85 ^ 4 + d1 * 85 ^ 3 + d2 * 85 ^ 2 + d3 * 85 + d4 := by
  simp only [value85, List.foldl_cons, List.foldl_nil]
  ring

/-- The digits of a value, read back (R140). -/
theorem value85_digits85 {v : Nat} (h : v < 85 ^ 5) : value85 (digits85 v) = v := by
  simp only [digits85, value85_five]
  omega

/-- A character of a group less 33 is its digit (R140, R147). -/
theorem chars85_sub (v : Nat) : (chars85 v).map (fun ch => ch.toNat - 33) = digits85 v := by
  simp only [chars85, List.map_map]
  conv_rhs => rw [← List.map_id (digits85 v)]
  refine List.map_congr_left fun d hd => ?_
  have := digits85_lt v d hd
  simp only [Function.comp, BitVec.toNat_ofNat, id]
  omega

/-! ## Hex digits (R160) -/

/-- `hexval` undoes `hexchar` in both cases of letter. -/
theorem hexval_hexchar (n : BitVec 4) (up : Bool) : hexval (hexchar n up) = some n := by
  revert n up
  decide

/-- A byte is its two nibbles (R161, R164). -/
theorem nibbles_append (b : Byte) : b.extractLsb' 4 4 ++ b.extractLsb' 0 4 = b := by
  revert b
  decide +kernel

/-! ## Bit strings (R218) -/

theorem foldl_natOfBits (bits : List Bool) (n : Nat) :
    bits.foldl (fun n b => 2 * n + b.toNat) n = n * 2 ^ bits.length + natOfBits bits := by
  induction bits generalizing n with
  | nil => simp [natOfBits]
  | cons b bits ih =>
    rw [List.foldl_cons, ih,
      show natOfBits (b :: bits) = bits.foldl (fun n b => 2 * n + b.toNat) (2 * 0 + b.toNat) from rfl,
      ih, List.length_cons]
    ring

theorem natOfBits_cons (b : Bool) (bits : List Bool) :
    natOfBits (b :: bits) = b.toNat * 2 ^ bits.length + natOfBits bits := by
  simpa [natOfBits] using foldl_natOfBits bits b.toNat

theorem natOfBits_lt (bits : List Bool) : natOfBits bits < 2 ^ bits.length := by
  induction bits with
  | nil => simp [natOfBits]
  | cons b bits ih =>
    rw [natOfBits_cons, List.length_cons, pow_succ]
    have := b.toNat_lt
    nlinarith

@[simp] theorem bitsOfNat_length (w v : Nat) : (bitsOfNat w v).length = w := by simp [bitsOfNat]

theorem bitsOfNat_succ (w v : Nat) : bitsOfNat (w + 1) v = v.testBit w :: bitsOfNat w v := by
  simp only [bitsOfNat, List.range_succ_eq_map, List.map_cons, List.map_map, List.cons.injEq]
  refine ⟨by simp, List.map_congr_left fun i _ => ?_⟩
  simp only [Function.comp]
  congr 1
  omega

/-- The number a component's bits form, read back (R218). -/
theorem natOfBits_bitsOfNat (w v : Nat) : natOfBits (bitsOfNat w v) = v % 2 ^ w := by
  induction w with
  | zero => simp [bitsOfNat, natOfBits, Nat.mod_one]
  | succ w ih =>
    rw [bitsOfNat_succ, natOfBits_cons, ih, bitsOfNat_length, Nat.mod_pow_succ, Nat.testBit_eq_decide_div_mod_eq]
    rcases Nat.mod_two_eq_zero_or_one (v / 2 ^ w) with h | h
    · simp [h]
    · simp [h]
      omega

/-- Every bit string is the bits of the number it forms. -/
theorem bitsOfNat_natOfBits (bits : List Bool) : bitsOfNat bits.length (natOfBits bits) = bits := by
  induction bits with
  | nil => rfl
  | cons b bits ih =>
    have hlt := natOfBits_lt bits
    rw [List.length_cons, bitsOfNat_succ]
    congr 1
    · rw [natOfBits_cons, Nat.mul_comm, Nat.testBit_two_pow_mul_add b.toNat hlt]
      cases b <;> simp
    · conv_rhs => rw [← ih]
      refine List.map_congr_left fun i hi => ?_
      rw [natOfBits_cons, Nat.mul_comm, Nat.testBit_two_pow_mul_add b.toNat hlt, if_pos]
      have := List.mem_range.1 hi
      omega

@[simp] theorem bitsOfBytes_nil : bitsOfBytes [] = [] := rfl

theorem bitsOfBytes_cons (b : Byte) (bs : List Byte) :
    bitsOfBytes (b :: bs) = bitsOfNat 8 b.toNat ++ bitsOfBytes bs := by
  have : (List.range 8).map b.getMsbD = bitsOfNat 8 b.toNat := by
    refine List.map_congr_left fun i hi => ?_
    have := List.mem_range.1 hi
    rw [BitVec.getMsbD_eq_getLsbD, BitVec.getLsbD]
    simp [this]
  simp [bitsOfBytes, this]

@[simp] theorem bitsOfBytes_length (bs : List Byte) : (bitsOfBytes bs).length = 8 * bs.length := by
  induction bs with
  | nil => rfl
  | cons b bs ih => rw [bitsOfBytes_cons, List.length_append, ih, bitsOfNat_length, List.length_cons]; ring

@[simp] theorem bytesOfBits_length (m : Nat) (bits : List Bool) : (bytesOfBits m bits).length = m := by
  induction m generalizing bits with
  | zero => rfl
  | succ m ih => simp [bytesOfBits, ih]

/-- Bytes, their bits, and the bytes again (R218). -/
theorem bytesOfBits_bitsOfBytes (bs : List Byte) : bytesOfBits bs.length (bitsOfBytes bs) = bs := by
  induction bs with
  | nil => rfl
  | cons b bs ih =>
    have hl : (bitsOfNat 8 b.toNat).length = 8 := bitsOfNat_length 8 _
    rw [List.length_cons, bytesOfBits, bitsOfBytes_cons, List.take_left' hl, List.drop_left' hl, ih,
      natOfBits_bitsOfNat, Nat.mod_eq_of_lt b.isLt, BitVec.ofNat_toNat, BitVec.setWidth_eq]

/-- Bits in whole bytes, their bytes, and the bits again (R218). -/
theorem bitsOfBytes_bytesOfBits (m : Nat) (bits : List Bool) (h : bits.length = 8 * m) :
    bitsOfBytes (bytesOfBits m bits) = bits := by
  induction m generalizing bits with
  | zero => simp_all [bytesOfBits]
  | succ m ih =>
    have ht : (bits.take 8).length = 8 := by simp; omega
    have hb := natOfBits_lt (bits.take 8)
    rw [bytesOfBits, bitsOfBytes_cons, ih _ (by simp; omega), BitVec.toNat_ofNat,
      Nat.mod_eq_of_lt (by rw [ht] at hb; exact hb)]
    conv_lhs => rw [← ht]
    rw [ht]
    have := bitsOfNat_natOfBits (bits.take 8)
    rw [ht] at this
    rw [this, List.take_append_drop]

theorem natOfBits_append (as bs : List Bool) :
    natOfBits (as ++ bs) = natOfBits as * 2 ^ bs.length + natOfBits bs := by
  rw [natOfBits, List.foldl_append, foldl_natOfBits]
  rfl

/-- The bits of a row form its big-endian number (R6, R218). -/
theorem natOfBits_bitsOfBytes (bs : List Byte) : natOfBits (bitsOfBytes bs) = beNat bs := by
  induction bs with
  | nil => rfl
  | cons b bs ih =>
    rw [bitsOfBytes_cons, natOfBits_append, natOfBits_bitsOfNat, ih, beNat_cons, bitsOfBytes_length,
      Nat.mod_eq_of_lt b.isLt, pow_mul]
    norm_num

/-- The last bits of a bit string form the low end of its number. -/
theorem natOfBits_drop (bits : List Bool) (k : Nat) :
    natOfBits (bits.drop k) = natOfBits bits % 2 ^ (bits.length - k) := by
  have h := natOfBits_append (bits.take k) (bits.drop k)
  have hlt := natOfBits_lt (bits.drop k)
  rw [List.take_append_drop] at h
  rw [List.length_drop] at h hlt
  rw [h, Nat.mul_comm, Nat.mul_add_mod, Nat.mod_eq_of_lt hlt]

/-- The first bits of a bit string form the high end of its number. -/
theorem natOfBits_take (bits : List Bool) (k : Nat) :
    natOfBits (bits.take k) = natOfBits bits / 2 ^ (bits.length - k) := by
  have h := natOfBits_append (bits.take k) (bits.drop k)
  have hlt := natOfBits_lt (bits.drop k)
  rw [List.take_append_drop] at h
  rw [List.length_drop] at h hlt
  rw [h, Nat.mul_comm, Nat.mul_add_div (Nat.two_pow_pos _), Nat.div_eq_of_lt hlt, Nat.add_zero]

/-- Component `j` of a row is the number its `bpc` bits form (R218). -/
theorem component_bits (bpc j : Nat) (row : List Byte) (h : (j + 1) * bpc ≤ 8 * row.length) :
    component bpc j row = natOfBits (((bitsOfBytes row).drop (j * bpc)).take bpc) := by
  rw [Nat.succ_mul] at h
  obtain ⟨k, hk⟩ := Nat.exists_eq_add_of_le h
  rw [component, natOfBits_take, natOfBits_drop, natOfBits_bitsOfBytes, List.length_drop, bitsOfBytes_length,
    Nat.succ_mul j, show 8 * row.length - (j * bpc + bpc) = k by omega,
    show 8 * row.length - j * bpc = k + bpc by omega, Nat.add_sub_cancel, pow_add, Nat.mod_mul_right_div_self]

/-! ## Rows -/

@[simp] theorem pngFilterRow_length (f : PngFilter) (bpp : Nat) (prev done xs : List Byte) :
    (pngFilterRow f bpp prev done xs).length = xs.length := by
  induction xs generalizing done with
  | nil => rfl
  | cons x xs ih => simp [pngFilterRow, ih]

theorem pngRecon_length (f : PngFilter) (bpp : Nat) (prev done xs : List Byte) :
    (pngRecon f bpp prev done xs).length = done.length + xs.length := by
  induction xs generalizing done with
  | nil => rfl
  | cons x xs ih => rw [pngRecon, ih]; simp; omega

/-- Reconstruction undoes filtering by the same filter (R227, R228). -/
theorem pngRecon_pngFilterRow (f : PngFilter) (bpp : Nat) (prev done xs : List Byte) :
    pngRecon f bpp prev done (pngFilterRow f bpp prev done xs) = done ++ xs := by
  induction xs generalizing done with
  | nil => simp [pngFilterRow, pngRecon]
  | cons x xs ih => rw [pngFilterRow, pngRecon, BitVec.sub_add_cancel, ih, List.append_assoc]; rfl

theorem tiffBits_length (dir : Direction) (bpc colors n j : Nat) (left : List Nat) (bits : List Bool)
    (h : n * bpc ≤ bits.length) : (tiffBits dir bpc colors n j left bits).length = bits.length := by
  induction n generalizing j left bits with
  | zero => rfl
  | succ n ih =>
    rw [Nat.succ_mul] at h
    simp only [tiffBits, List.length_append, bitsOfNat_length]
    rw [ih _ _ _ (by simp; omega), List.length_drop]
    omega

/-- Decoding undoes encoding of the same components from the same raw values (R219). -/
theorem tiffBits_dec_enc (bpc colors n j : Nat) (left : List Nat) (bits : List Bool)
    (h : n * bpc ≤ bits.length) (hl : ∀ x ∈ left, x < 2 ^ bpc) :
    tiffBits .dec bpc colors n j left (tiffBits .enc bpc colors n j left bits) = bits := by
  induction n generalizing j left bits with
  | zero => rfl
  | succ n ih =>
    rw [Nat.succ_mul] at h
    have ht : (bits.take bpc).length = bpc := by simp; omega
    have hx := natOfBits_lt (bits.take bpc)
    rw [ht] at hx
    have hk : left.getD (j % colors) 0 < 2 ^ bpc := by
      rcases Nat.lt_or_ge (j % colors) left.length with hlt | hge
      · rw [List.getD_eq_getElem _ _ hlt]
        exact hl _ (List.getElem_mem hlt)
      · rw [List.getD_eq_default _ _ hge]
        exact Nat.two_pow_pos bpc
    set x := natOfBits (bits.take bpc) with hxdef
    set k := left.getD (j % colors) 0 with hkdef
    have hy : ((x + 2 ^ bpc - k) % 2 ^ bpc) % 2 ^ bpc = (x + 2 ^ bpc - k) % 2 ^ bpc :=
      Nat.mod_mod _ _
    have hraw : ((x + 2 ^ bpc - k) % 2 ^ bpc + k) % 2 ^ bpc = x := by
      rw [Nat.mod_add_mod, show x + 2 ^ bpc - k + k = x + 2 ^ bpc by omega, Nat.add_mod_right,
        Nat.mod_eq_of_lt hx]
    have he : tiffBits .enc bpc colors (n + 1) j left bits =
        bitsOfNat bpc ((x + 2 ^ bpc - k) % 2 ^ bpc) ++
          tiffBits .enc bpc colors n (j + 1) (left.set (j % colors) x) (bits.drop bpc) := by
      simp only [tiffBits, ← hxdef, ← hkdef]
    rw [he]
    simp only [tiffBits, List.take_left' (bitsOfNat_length bpc _), List.drop_left' (bitsOfNat_length bpc _),
      natOfBits_bitsOfNat, ← hkdef, hy, hraw]
    rw [ih _ _ _ (by simp; omega) (by
      intro y hy'
      rcases List.mem_or_eq_of_mem_set hy' with h1 | h1
      · exact hl y h1
      · rw [h1]; exact hx)]
    have hb := bitsOfNat_natOfBits (bits.take bpc)
    rw [ht, ← hxdef] at hb
    rw [hb, List.take_append_drop]

@[simp] theorem tiffRow_length (l : Latches) (dir : Direction) (row : List Byte) :
    (tiffRow l dir row).length = row.length := by simp [tiffRow]

theorem tiffComponents_bits (l : Latches) (m : Nat) : tiffComponents l m * l.bpc.toNat ≤ 8 * m :=
  le_trans (Nat.mul_le_mul_right _ (min_le_right _ _)) (Nat.div_mul_le_self _ _)

/-- A TIFF row decodes to the row it was encoded from, full or truncated (R219, R232). -/
theorem tiffRow_dec_enc (l : Latches) (row : List Byte) : tiffRow l .dec (tiffRow l .enc row) = row := by
  have hb : tiffComponents l row.length * l.bpc.toNat ≤ (bitsOfBytes row).length := by
    rw [bitsOfBytes_length]
    exact tiffComponents_bits l row.length
  unfold tiffRow
  rw [bytesOfBits_length, bitsOfBytes_bytesOfBits _ _ (by rw [tiffBits_length _ _ _ _ _ _ _ hb]; simp),
    tiffBits_dec_enc _ _ _ _ _ _ hb (by
      intro x hx
      rw [List.eq_of_mem_replicate hx]
      exact Nat.two_pow_pos _),
    bytesOfBits_bitsOfBytes]

/-! ## What the row rules give, in the terms of the statements -/

/-- What `tiffBits` does to each component, and to the bits after the last (R219). -/
theorem tiffBits_components (dir : Direction) (bpc colors n j : Nat) (left : List Nat) (bits : List Bool)
    (hc : 1 ≤ colors) (hl : left.length = colors) (h : n * bpc ≤ bits.length) :
    let out := tiffBits dir bpc colors n j left bits
    let comp (bs : List Bool) (i : Nat) := natOfBits ((bs.drop (i * bpc)).take bpc)
    let before (raw : List Bool) (i : Nat) :=
      if colors ≤ i then comp raw (i - colors) else left.getD ((j + i) % colors) 0
    (∀ i, i < n →
      (dir = .dec → comp out i = (comp bits i + before out i) % 2 ^ bpc) ∧
      (dir = .enc → comp out i = (comp bits i + 2 ^ bpc - before bits i) % 2 ^ bpc)) ∧
    out.drop (n * bpc) = bits.drop (n * bpc) := by
  induction n generalizing j left bits with
  | zero => simp [tiffBits]
  | succ n ih =>
    rw [Nat.succ_mul] at h
    intro out comp before
    obtain ⟨y, raw, hout, hy⟩ : ∃ y raw,
        out = bitsOfNat bpc y ++ tiffBits dir bpc colors n (j + 1) (left.set (j % colors) raw) (bits.drop bpc) ∧
        (dir = .dec → y = (comp bits 0 + left.getD (j % colors) 0) % 2 ^ bpc ∧ raw = y) ∧
        (dir = .enc → y = (comp bits 0 + 2 ^ bpc - left.getD (j % colors) 0) % 2 ^ bpc ∧ raw = comp bits 0) := by
      refine ⟨_, _, rfl, ?_⟩
      cases dir <;> simp [comp]
    obtain ⟨hi, hd⟩ := ih (j + 1) (left.set (j % colors) raw) (bits.drop bpc) (by simpa using hl)
      (by rw [List.length_drop]; omega)
    set rest := tiffBits dir bpc colors n (j + 1) (left.set (j % colors) raw) (bits.drop bpc) with hrest
    have hob : ∀ i, comp out (i + 1) = comp rest i := by
      intro i
      simp only [comp, hout]
      rw [Nat.succ_mul, Nat.add_comm (i * bpc), ← List.drop_drop, List.drop_left' (bitsOfNat_length bpc _)]
    have hbb : ∀ i, comp bits (i + 1) = comp (bits.drop bpc) i := by
      intro i
      simp only [comp]
      rw [Nat.succ_mul, Nat.add_comm (i * bpc), List.drop_drop]
    have ho0 : comp out 0 = y % 2 ^ bpc := by
      simp only [comp, hout]
      rw [Nat.zero_mul, List.drop_zero, List.take_left' (bitsOfNat_length bpc _), natOfBits_bitsOfNat]
    have hb (us vs : List Bool) (i : Nat) (h0 : comp us 0 = raw) (hs : ∀ i, comp us (i + 1) = comp vs i) :
        before us (i + 1) =
          (if colors ≤ i then comp vs (i - colors) else (left.set (j % colors) raw).getD ((j + 1 + i) % colors) 0) := by
      simp only [before]
      by_cases h1 : colors ≤ i
      · rw [if_pos (by omega), if_pos h1, show i + 1 - colors = (i - colors) + 1 by omega, hs]
      · rw [if_neg h1]
        by_cases h2 : i + 1 = colors
        · rw [if_pos (by omega), h2, Nat.sub_self, h0, show j + 1 + i = j + colors by omega, Nat.add_mod_right,
            List.getD_eq_getElem _ _ (by rw [List.length_set, hl]; exact Nat.mod_lt _ hc), List.getElem_set_self]
        · rw [if_neg (by omega), show j + (i + 1) = j + 1 + i by omega]
          have hne : j % colors ≠ (j + 1 + i) % colors := by
            intro he
            have hq : j ≡ j + 1 + i [MOD colors] := he
            have := (Nat.modEq_iff_dvd' (by omega)).1 hq
            rw [show j + 1 + i - j = i + 1 by omega] at this
            exact absurd (Nat.le_of_dvd (by omega) this) (by omega)
          rw [List.getD_eq_getElem?_getD, List.getD_eq_getElem?_getD, List.getElem?_set_ne hne]
    refine ⟨fun i hlt => ?_, ?_⟩
    · cases i with
      | zero =>
        have hz (us : List Bool) : before us 0 = left.getD (j % colors) 0 := by
          simp only [before]
          rw [if_neg (by omega), Nat.add_zero]
        refine ⟨fun hdir => ?_, fun hdir => ?_⟩
        · rw [ho0, hz, (hy.1 hdir).1, Nat.mod_mod]
        · rw [ho0, hz, (hy.2 hdir).1, Nat.mod_mod]
      | succ i =>
        obtain ⟨p, q⟩ := hi i (by omega)
        refine ⟨fun hdir => ?_, fun hdir => ?_⟩
        · have hr : comp out 0 = raw := by
            rw [ho0, (hy.1 hdir).2, (hy.1 hdir).1, Nat.mod_mod]
          rw [hob, hbb, hb out rest i hr hob]
          exact p hdir
        · rw [hob, hbb, hb bits (bits.drop bpc) i (hy.2 hdir).2.symm hbb]
          exact q hdir
    · rw [hout, Nat.succ_mul, Nat.add_comm (n * bpc), ← List.drop_drop, List.drop_left' (bitsOfNat_length bpc _),
        hd, List.drop_drop]

/-- What `tiffRow` gives, component by component (R218, R219): the rule as Safety.lean writes it. -/
theorem tiffRow_coded (l : Latches) (dir : Direction) (row : List Byte) (hc : 1 ≤ l.colors.toNat) :
    TiffCoded dir l.columns.toNat l.colors.toNat l.bpc.toNat row (tiffRow l dir row) := by
  have hn := tiffComponents_bits l row.length
  have hn' : tiffComponents l row.length * l.bpc.toNat ≤ (bitsOfBytes row).length := by
    rwa [bitsOfBytes_length]
  obtain ⟨hcomp, hpad⟩ := tiffBits_components dir l.bpc.toNat l.colors.toNat (tiffComponents l row.length) 0
    (List.replicate l.colors.toNat 0) (bitsOfBytes row) hc (by simp) hn'
  have ho : bitsOfBytes (tiffRow l dir row) =
      tiffBits dir l.bpc.toNat l.colors.toNat (tiffComponents l row.length) 0
        (List.replicate l.colors.toNat 0) (bitsOfBytes row) :=
    bitsOfBytes_bytesOfBits _ _ (by rw [tiffBits_length _ _ _ _ _ _ _ hn', bitsOfBytes_length])
  rw [← ho] at hcomp hpad
  refine ⟨tiffRow_length l dir row, fun j hj => ?_, ?_⟩
  · change j < tiffComponents l row.length at hj
    have hle (i : Nat) (hi : i ≤ j) (r : List Byte) (hr : r.length = row.length) :
        component l.bpc.toNat i r = natOfBits (((bitsOfBytes r).drop (i * l.bpc.toNat)).take l.bpc.toNat) := by
      refine component_bits _ _ _ ?_
      rw [hr]
      exact le_trans (Nat.mul_le_mul_right _ (by omega : i + 1 ≤ tiffComponents l row.length)) hn
    have hleft (r : List Byte) (hr : r.length = row.length) :
        (if l.colors.toNat ≤ j then component l.bpc.toNat (j - l.colors.toNat) r else 0) =
        (if l.colors.toNat ≤ j then
          natOfBits (((bitsOfBytes r).drop ((j - l.colors.toNat) * l.bpc.toNat)).take l.bpc.toNat)
        else (List.replicate l.colors.toNat 0).getD ((0 + j) % l.colors.toNat) 0) := by
      split
      · exact hle _ (by omega) r hr
      · simp [List.getD_eq_getElem?_getD, List.getElem?_replicate]
        split <;> rfl
    obtain ⟨p, q⟩ := hcomp j hj
    refine ⟨fun hd => ?_, fun hd => ?_⟩
    · rw [hle j le_rfl _ (tiffRow_length l dir row), hle j le_rfl row rfl]
      refine (p hd).trans ?_
      simp only [hleft _ (tiffRow_length l dir row)]
    · rw [hle j le_rfl _ (tiffRow_length l dir row), hle j le_rfl row rfl]
      refine (q hd).trans ?_
      simp only [hleft row rfl]
  · have h := congrArg natOfBits hpad
    rw [natOfBits_drop, natOfBits_drop, natOfBits_bitsOfBytes, natOfBits_bitsOfBytes, bitsOfBytes_length,
      bitsOfBytes_length, tiffRow_length] at h
    exact h

/-- The predictor of a filter gives the value the filter's rule asks for (R222 to R226). -/
theorem pngPredict_value (f : PngFilter) (a b c : Byte) : FilterValue f a b c (pngPredict f a b c) := by
  cases f with
  | none => rfl
  | sub => rfl
  | up => rfl
  | average =>
    have ha := a.isLt
    have hb := b.isLt
    simp only [FilterValue, pngPredict, BitVec.toNat_ofNat]
    omega
  | paeth =>
    simp only [FilterValue, pngPredict, paeth]
    split_ifs with h1 h2
    · exact .inl ⟨rfl, h1⟩
    · exact .inr (.inl ⟨rfl, h1, h2⟩)
    · exact .inr (.inr ⟨rfl, h1, h2⟩)

theorem pngFilterRow_getD (f : PngFilter) (bpp : Nat) (prev done xs : List Byte) (i : Nat) (h : i < xs.length) :
    (pngFilterRow f bpp prev done xs).getD i 0#8 =
      xs.getD i 0#8 - pngPredictAt f bpp prev (done ++ xs.take i) := by
  induction xs generalizing done i with
  | nil => simp at h
  | cons x xs ih =>
    cases i with
    | zero => simp [pngFilterRow]
    | succ i => simpa [pngFilterRow] using ih (done ++ [x]) i (by simpa using h)

/-- What `pngFilterRow` gives, byte by byte (R221, R228): the rule as Safety.lean writes it. -/
theorem pngFilterRow_filtered (f : PngFilter) (bpp : Nat) (prev row : List Byte) (hb : 1 ≤ bpp) :
    RowFiltered f bpp prev row (pngFilterRow f bpp prev [] row) := by
  refine ⟨(pngFilterRow_length f bpp prev [] row).symm, fun i hi => ⟨pngPredictAt f bpp prev (row.take i), ?_, ?_⟩⟩
  · have hl : (row.take i).length = i := by rw [List.length_take]; omega
    have ha : backByte bpp (row.take i) i = if bpp ≤ i then row.getD (i - bpp) 0#8 else 0#8 := by
      unfold backByte
      split
      · rw [List.getD_eq_getElem?_getD, List.getElem?_take_of_lt (by omega), List.getD_eq_getElem?_getD]
      · rfl
    rw [pngPredictAt, hl, ha]
    exact pngPredict_value f _ _ _
  · rw [pngFilterRow_getD f bpp prev [] row i hi, List.nil_append, BitVec.sub_add_cancel]

/-- Filtering undoes reconstruction: `pngRecon` appends the row whose filtered bytes it was given (R227, R228). -/
theorem pngRecon_appends (f : PngFilter) (bpp : Nat) (prev done xs : List Byte) :
    ∃ raw, pngRecon f bpp prev done xs = done ++ raw ∧ pngFilterRow f bpp prev done raw = xs := by
  induction xs generalizing done with
  | nil => exact ⟨[], by simp [pngRecon, pngFilterRow]⟩
  | cons x xs ih =>
    obtain ⟨raw, h1, h2⟩ := ih (done ++ [x + pngPredictAt f bpp prev done])
    refine ⟨(x + pngPredictAt f bpp prev done) :: raw, by rw [pngRecon, h1, List.append_assoc]; rfl, ?_⟩
    rw [pngFilterRow, h2, BitVec.add_sub_cancel]

/-- What `pngRecon` gives, byte by byte (R221, R227): the rule as Safety.lean writes it. -/
theorem pngRecon_filtered (f : PngFilter) (bpp : Nat) (prev data : List Byte) (hb : 1 ≤ bpp) :
    RowFiltered f bpp prev (pngRecon f bpp prev [] data) data := by
  obtain ⟨raw, h1, h2⟩ := pngRecon_appends f bpp prev [] data
  rw [h1, List.nil_append]
  exact h2 ▸ pngFilterRow_filtered f bpp prev raw hb

/-- `L_COLORS` and `L_BPC` of at least 1, as the checks of START leave them (R33), make `bpp` at least 1 (R34). -/
theorem pixelBytes_pos (l : Latches) (hc : 1 ≤ l.colors.toNat) (hb : 1 ≤ l.bpc.toNat) : 1 ≤ l.pixelBytes := by
  have := Nat.mul_le_mul hb hc
  unfold Latches.pixelBytes
  omega

end Sys2Proof.Machine
end

