-- ==== Sys2Proof/Laws/Commands.lean ====
section
/-! SUPPORT. The checks of START and PUSH as propositions, PUSH and FINISH and the symbol classes where they
complete, and the spec lemmas of the code and bit layer of LZW. -/

namespace Sys2Proof.Machine

/-! ## The checks of START and of PUSH, as propositions -/

theorem payloadFits_iff (s : State) : payloadFits s = true ↔ PayloadFits s := by
  unfold payloadFits PayloadFits
  split <;> simp_all

theorem rowFits_iff (cfg : Config) (l : Latches) :
    rowFits cfg l = true ↔ ∀ m, cfg.rowMax = some m → l.rowBytes ≤ m := by
  unfold rowFits
  split <;> simp_all

theorem eq_iff_toNat (w : Word) (n : Nat) (h : n < 2 ^ 32) : w = BitVec.ofNat 32 n ↔ w.toNat = n := by
  rw [← BitVec.toNat_inj, BitVec.toNat_ofNat, Nat.mod_eq_of_lt h]

theorem predLegal_iff (l : Latches) :
    l.predLegal = true ↔ l.pred.toNat ∈ [1, 2, 10, 11, 12, 13, 14, 15] := by
  simp only [Latches.predLegal, Bool.or_eq_true, beq_iff_eq, decide_eq_true_eq, List.mem_cons,
    List.not_mem_nil, or_false, eq_iff_toNat _ 1 (by decide), eq_iff_toNat _ 2 (by decide)]
  omega

theorem bpcLegal_iff (l : Latches) : l.bpcLegal = true ↔ l.bpc.toNat ∈ [1, 2, 4, 8, 16] := by
  simp only [Latches.bpcLegal, Bool.or_eq_true, beq_iff_eq, List.mem_cons, List.not_mem_nil, or_false,
    eq_iff_toNat _ 1 (by decide), eq_iff_toNat _ 2 (by decide), eq_iff_toNat _ 4 (by decide),
    eq_iff_toNat _ 8 (by decide), eq_iff_toNat _ 16 (by decide), or_assoc]

theorem predictorOn_iff (unit : CodecUnit) (l : Latches) :
    predictorOn unit l = true ↔ PredictorWorks unit l := by
  simp only [predictorOn, PredictorWorks, Bool.and_eq_true, Bool.or_eq_true, beq_iff_eq, bne_iff_ne, ne_eq,
    eq_iff_toNat _ 1 (by decide)]

/-- The four checks of R33. -/
theorem startChecks_iff (cfg : Config) (unit : CodecUnit) (dir : Direction) (l : Latches) :
    startChecks cfg unit dir l = true ↔ ParametersLegal cfg unit dir l := by
  have h15 := eq_iff_toNat l.pred 15 (by decide)
  simp only [startChecks, ParametersLegal, Bool.and_eq_true, Bool.or_eq_true, Bool.not_eq_true', beq_iff_eq,
    decide_eq_true_eq, predLegal_iff, bpcLegal_iff, rowFits_iff,
    ← predictorOn_iff, ← Bool.not_eq_true, h15, and_assoc]
  constructor
  · rintro ⟨h1, h2⟩
    exact ⟨fun h => h1.resolve_left (by tauto), fun h =>
      have h3 := h2.resolve_left (by simpa using h)
      ⟨h3.1, h3.2.1, h3.2.2.1, h3.2.2.2.1, fun hd => h3.2.2.2.2.resolve_left (by tauto)⟩⟩
  · rintro ⟨h1, h2⟩
    refine ⟨?_, ?_⟩
    · by_cases h : unit = .lzw ∨ unit = .pred
      · exact .inr (h1 h)
      · exact .inl (by tauto)
    · by_cases h : predictorOn unit l = true
      · obtain ⟨a, b, c, d, e⟩ := h2 h
        refine .inr ⟨a, b, c, d, ?_⟩
        by_cases hd : dir = .enc ∧ l.pred.toNat = 15
        · exact .inr (e hd)
        · exact .inl (by tauto)
      · exact .inl (by simpa using h)

/-! ## PUSH and FINISH in phase ACTIVE -/

theorem execPush_active {s : State} {c : Codec} (ha : s.phase = .active) (hc : s.codec = some c)
    (hf : PayloadFits s) : execPush s = .next (pushActive s) := by
  simp [execPush, ha, hc, (payloadFits_iff s).2 hf]

theorem execFinish_active {s : State} {c : Codec} (ha : s.phase = .active) (hc : s.codec = some c) :
    execFinish s = .next (finishActive s) := by
  simp [execFinish, ha, hc]

theorem execPush_rejected {s : State} (h : s.phase ≠ .active ∨ ¬ PayloadFits s) :
    execPush s = .next (reject s) := by
  unfold execPush
  rw [if_pos]
  rw [← payloadFits_iff, Bool.not_eq_true] at h
  exact h

theorem execFinish_rejected {s : State} (h : s.phase ≠ .active) : execFinish s = .next (reject s) := by
  simp [execFinish, h]

/-- PUSH of one byte to an invocation that owes no opening CLEAR. -/
theorem pushActive_one {s : State} {b : Byte} (ha : s.phase = .active) (hi : s.inp = [b])
    (ho : openStream { s with out := [] } = { s with out := [] }) :
    pushActive s =
      let t := { byteStep b { s with out := [] } with inp := [] }
      if t.phase = .active then respond okWord t.out t else t := by
  unfold pushActive
  rw [ho, hi]
  have hp : ({ s with out := [] } : State).phase = .active := ha
  simp only [pushBytes, if_pos hp]

theorem openStream_other {s : State} (h : ∀ e, s.codec ≠ some (.lzwEnc e)) : openStream s = s := by
  unfold openStream
  split
  · exact absurd ‹_› (h _)
  · rfl

theorem openStream_opened {s : State} {e : LzwEnc} (hc : s.codec = some (.lzwEnc e)) (hl : e.lead = false) :
    openStream s = s := by
  unfold openStream
  rw [hc]
  cases s
  simp_all [lzwOpening, emitOut]

/-! ## Symbols, where their decoder is at work -/

theorem a85Symbol_decoding {s : State} {d : A85Dec} {tilde : Bool} (h : A85Decoding s d)
    (ht : d.tilde = tilde) (rule : A85Dec → Answer A85Dec) :
    a85Symbol tilde rule s = .next (applyAnswer Codec.a85Dec (rule d) s) := by
  obtain ⟨hp, hc, hf⟩ := h
  simp [a85Symbol, hp, hc, hf, ht]

theorem ahxSymbol_decoding {s : State} {d : AhxDec} (h : AhxDecoding s d) (rule : AhxDec → Answer AhxDec) :
    ahxSymbol rule s = .next (applyAnswer Codec.ahxDec (rule d) s) := by
  obtain ⟨hp, hc, hf⟩ := h
  simp [ahxSymbol, hp, hc, hf]

theorem lzwSymbol_decoding {s : State} {d : LzwDec} (h : LzwDecoding s d) (rule : LzwDec → Answer LzwDec) :
    lzwSymbol rule s = .next (lzwAnswer (rule d) s) := by
  obtain ⟨hp, hc, hf⟩ := h
  simp [lzwSymbol, hp, hc, hf]

theorem pngSymbol_decoding {s : State} {tag : Byte} {data prev : List Byte} (h : PngDecoding s tag data prev)
    (rule : Latches → List Byte → List Byte → Answer (List Byte)) :
    pngSymbol tag rule s = .next (rowAnswer (rule s.latch prev data) s) := by
  obtain ⟨hp, hd, hl, hr⟩ := h
  have : s.latch.png = true := by simpa [Latches.png] using hl
  simp [pngSymbol, hp, hd, hr, this]

theorem byteStep_a85Dec {s : State} {d : A85Dec} (h : A85Decoding s d) (b : Byte) :
    byteStep b s = applyAnswer Codec.a85Dec (a85DecByte b d) s := by
  simp [byteStep, h.2.1, h.2.2]

theorem byteStep_ahxDec {s : State} {d : AhxDec} (h : AhxDecoding s d) (b : Byte) :
    byteStep b s = applyAnswer Codec.ahxDec (ahxDecByte b d) s := by
  simp [byteStep, h.2.1, h.2.2]

theorem byteStep_lzwDec {s : State} {d : LzwDec} (h : LzwDecoding s d) (b : Byte) :
    byteStep b s = lzwDecByte b d s := by
  simp [byteStep, h.2.1, h.2.2]

/-! ## Codes and bits -/

/-- The loop of `WriteCode` (R187): whole bytes leave, oldest bits first, the rest stays. -/
theorem drainBytes_spec (k acc nbits : Nat) (hk : 8 * k ≤ nbits) (ha : acc < 2 ^ nbits) :
    (drainBytes k acc nbits).1.length = k ∧
    (drainBytes k acc nbits).2.2 = nbits - 8 * k ∧
    (drainBytes k acc nbits).2.1 < 2 ^ (nbits - 8 * k) ∧
    acc = beNat (drainBytes k acc nbits).1 * 2 ^ (nbits - 8 * k) + (drainBytes k acc nbits).2.1 := by
  induction k generalizing acc nbits with
  | zero => simp [drainBytes, beNat, ha]
  | succ k ih =>
    have hlt : acc % 2 ^ (nbits - 8) < 2 ^ (nbits - 8) := Nat.mod_lt _ (Nat.two_pow_pos _)
    obtain ⟨h1, h2, h3, h4⟩ := ih (acc % 2 ^ (nbits - 8)) (nbits - 8) (by omega) hlt
    have hs : nbits - 8 - 8 * k = nbits - 8 * (k + 1) := by omega
    rw [hs] at h2 h3 h4
    have hq : acc / 2 ^ (nbits - 8) < 256 := by
      rw [Nat.div_lt_iff_lt_mul (Nat.two_pow_pos _), show (256 : Nat) = 2 ^ 8 by rfl, ← pow_add]
      rwa [show 8 + (nbits - 8) = nbits by omega]
    refine ⟨by simp [drainBytes, h1], by simpa [drainBytes] using h2, by simpa [drainBytes] using h3, ?_⟩
    have hb : (BitVec.ofNat 8 (acc / 2 ^ (nbits - 8))).toNat = acc / 2 ^ (nbits - 8) := by
      rw [BitVec.toNat_ofNat, Nat.mod_eq_of_lt (by simpa using hq)]
    simp only [drainBytes, beNat_cons, hb, h1, Nat.add_mul]
    have hp : (256 : Nat) ^ k * 2 ^ (nbits - 8 * (k + 1)) = 2 ^ (nbits - 8) := by
      rw [show (256 : Nat) = 2 ^ 8 by rfl, ← pow_mul, ← pow_add]
      congr 1
      omega
    rw [Nat.mul_assoc, hp, Nat.add_assoc, ← h4]
    exact (Nat.div_add_mod' acc _).symm

/-- The width a table size asks for is at least 9 and at most 12 (R179, R190). -/
theorem widthDec_range (t : Nat) : 9 ≤ widthDec t ∧ widthDec t ≤ 12 := by
  unfold widthDec
  split_ifs <;> simp

theorem widthEnc_range (t : Nat) : 9 ≤ widthEnc t ∧ widthEnc t ≤ 12 := by
  unfold widthEnc
  split_ifs <;> simp

/-- A code of the table fits in the width it is written with (R184: "`tsize < 2^width` always"). -/
theorem tsize_lt_widthDec {t : Nat} (h : t ≤ 4095) : t < 2 ^ widthDec t := by
  unfold widthDec
  split_ifs <;> simp <;> omega

theorem tsize_le_widthEnc {t : Nat} (h : t ≤ 4095) : t ≤ 2 ^ widthEnc t := by
  unfold widthEnc
  split_ifs <;> simp <;> omega

/-- Reading a code needs fewer bits than a byte more than its width (R177). -/
theorem readCode_cases (b : Byte) (d : LzwDec) :
    readCode b d =
      if d.width ≤ d.nbits + 8 then
        (some (BitVec.ofNat 12 ((d.acc * 256 + b.toNat) / 2 ^ (d.nbits + 8 - d.width))),
          { d with
            acc := (d.acc * 256 + b.toNat) % 2 ^ (d.nbits + 8 - d.width), nbits := d.nbits + 8 - d.width })
      else (none, { d with acc := d.acc * 256 + b.toNat, nbits := d.nbits + 8 }) := rfl

@[simp] theorem tabString_literal (tab : List (List Byte)) (c : Nat) (h : c < 256) :
    tabString tab c = [BitVec.ofNat 8 c] := by simp [tabString, h]

theorem tabString_recorded (tab : List (List Byte)) (k : Nat) : tabString tab (258 + k) = tab.getD k [] := by
  unfold tabString
  rw [if_neg (by omega), if_neg (by omega), show 258 + k - 258 = k by omega]

/-- The code of a string names the string (R40). -/
theorem tabString_tabCode (tab : List (List Byte)) (s : List Byte) (h : isTabString tab s = true) :
    tabString tab (tabCode tab s) = s := by
  unfold tabCode
  split
  · rename_i b
    rw [tabString_literal _ _ b.isLt]
    simp
  · rename_i hs
    have hm : s ∈ tab := by
      rw [isTabString, Bool.or_eq_true] at h
      rcases h with h1 | h1
      · obtain ⟨b, rfl⟩ := List.length_eq_one_iff.1 (beq_iff_eq.1 h1)
        exact absurd rfl (hs b)
      · simpa using h1
    rw [tabString_recorded, List.getD_eq_getElem _ _ (List.idxOf_lt_length_of_mem hm)]
    exact List.getElem_idxOf _

end Sys2Proof.Machine
end

