-- ==== Sys2Proof/Laws/PerInstr.lean ====
section
/-! SUPPORT. The statement made of every instruction: the encoding of a well-formed one stands in its row of
spec/opcode_table.json, in the row's format with the row's `match` under the row's `mask` (R107). -/

namespace Sys2Proof.Laws.RowBits

/-- The six formats (R90). -/
inductive Format where
  | cmd
  | a85ch
  | a85chT
  | ahxch
  | lzwcode
  | pngtag
  deriving DecidableEq, Repr

/-- A row of the table: its format, `match` and `mask`. -/
structure Row where
  format : Format
  pattern : Nat
  mask : Nat
  deriving DecidableEq, Repr

/-- The format an encoding stands in. -/
def formatOf : Enc → Format
  | .cmd _ => .cmd
  | .a85ch _ => .a85ch
  | .a85chT _ => .a85chT
  | .ahxch _ => .ahxch
  | .lzwcode _ => .lzwcode
  | .pngtag _ => .pngtag

/-- The bits of an encoding, as a number (R6). -/
def bitsOf : Enc → Nat
  | .cmd v => v.toNat
  | .a85ch v => v.toNat
  | .a85chT v => v.toNat
  | .ahxch v => v.toNat
  | .lzwcode v => v.toNat
  | .pngtag v => v.toNat

/-- The row of each instruction, from the table. -/
def row : Instr → Row
  | .nop => ⟨.cmd, 0x00000000, 0xFFFFFFFF⟩
  | .startA85Dec => ⟨.cmd, 0x00000001, 0xFFFFFFFF⟩
  | .startA85Enc => ⟨.cmd, 0x00000081, 0xFFFFFFFF⟩
  | .startAhxDec => ⟨.cmd, 0x00000011, 0xFFFFFFFF⟩
  | .startAhxEnc => ⟨.cmd, 0x00000091, 0xFFFFFFFF⟩
  | .startLzwDec => ⟨.cmd, 0x00000021, 0xFFFFFFFF⟩
  | .startLzwEnc => ⟨.cmd, 0x000000A1, 0xFFFFFFFF⟩
  | .startPredDec => ⟨.cmd, 0x00000031, 0xFFFFFFFF⟩
  | .startPredEnc => ⟨.cmd, 0x000000B1, 0xFFFFFFFF⟩
  | .push => ⟨.cmd, 0x00000002, 0xFFFFFFFF⟩
  | .finish => ⟨.cmd, 0x00000003, 0xFFFFFFFF⟩
  | .abort => ⟨.cmd, 0x00000004, 0xFFFFFFFF⟩
  | .a85chWs00 => ⟨.a85ch, 0x00, 0xFF⟩
  | .a85chWs09 => ⟨.a85ch, 0x09, 0xFF⟩
  | .a85chWs0A => ⟨.a85ch, 0x0A, 0xFF⟩
  | .a85chWs0Cto0D _ => ⟨.a85ch, 0x0C, 0xFE⟩
  | .a85chWs20 => ⟨.a85ch, 0x20, 0xFF⟩
  | .a85chDigit21 => ⟨.a85ch, 0x21, 0xFF⟩
  | .a85chDigit22to23 _ => ⟨.a85ch, 0x22, 0xFE⟩
  | .a85chDigit24to27 _ => ⟨.a85ch, 0x24, 0xFC⟩
  | .a85chDigit28to2F _ => ⟨.a85ch, 0x28, 0xF8⟩
  | .a85chDigit30to3F _ => ⟨.a85ch, 0x30, 0xF0⟩
  | .a85chDigit40to5F _ => ⟨.a85ch, 0x40, 0xE0⟩
  | .a85chDigit60to6F _ => ⟨.a85ch, 0x60, 0xF0⟩
  | .a85chDigit70to73 _ => ⟨.a85ch, 0x70, 0xFC⟩
  | .a85chDigit74to75 _ => ⟨.a85ch, 0x74, 0xFE⟩
  | .a85chZ7A => ⟨.a85ch, 0x7A, 0xFF⟩
  | .a85chTilde7E => ⟨.a85ch, 0x7E, 0xFF⟩
  | .a85chBad01 => ⟨.a85ch, 0x01, 0xFF⟩
  | .a85chBad02to03 _ => ⟨.a85ch, 0x02, 0xFE⟩
  | .a85chBad04to07 _ => ⟨.a85ch, 0x04, 0xFC⟩
  | .a85chBad08 => ⟨.a85ch, 0x08, 0xFF⟩
  | .a85chBad0B => ⟨.a85ch, 0x0B, 0xFF⟩
  | .a85chBad0Eto0F _ => ⟨.a85ch, 0x0E, 0xFE⟩
  | .a85chBad10to1F _ => ⟨.a85ch, 0x10, 0xF0⟩
  | .a85chBad76to77 _ => ⟨.a85ch, 0x76, 0xFE⟩
  | .a85chBad78to79 _ => ⟨.a85ch, 0x78, 0xFE⟩
  | .a85chBad7B => ⟨.a85ch, 0x7B, 0xFF⟩
  | .a85chBad7Cto7D _ => ⟨.a85ch, 0x7C, 0xFE⟩
  | .a85chBad7F => ⟨.a85ch, 0x7F, 0xFF⟩
  | .a85chBad80toFF _ => ⟨.a85ch, 0x80, 0x80⟩
  | .a85chTWs00 => ⟨.a85chT, 0x00, 0xFF⟩
  | .a85chTWs09 => ⟨.a85chT, 0x09, 0xFF⟩
  | .a85chTWs0A => ⟨.a85chT, 0x0A, 0xFF⟩
  | .a85chTWs0Cto0D _ => ⟨.a85chT, 0x0C, 0xFE⟩
  | .a85chTWs20 => ⟨.a85chT, 0x20, 0xFF⟩
  | .a85chTGt3E => ⟨.a85chT, 0x3E, 0xFF⟩
  | .a85chTBad01 => ⟨.a85chT, 0x01, 0xFF⟩
  | .a85chTBad02to03 _ => ⟨.a85chT, 0x02, 0xFE⟩
  | .a85chTBad04to07 _ => ⟨.a85chT, 0x04, 0xFC⟩
  | .a85chTBad08 => ⟨.a85chT, 0x08, 0xFF⟩
  | .a85chTBad0B => ⟨.a85chT, 0x0B, 0xFF⟩
  | .a85chTBad0Eto0F _ => ⟨.a85chT, 0x0E, 0xFE⟩
  | .a85chTBad10to1F _ => ⟨.a85chT, 0x10, 0xF0⟩
  | .a85chTBad21 => ⟨.a85chT, 0x21, 0xFF⟩
  | .a85chTBad22to23 _ => ⟨.a85chT, 0x22, 0xFE⟩
  | .a85chTBad24to27 _ => ⟨.a85chT, 0x24, 0xFC⟩
  | .a85chTBad28to2F _ => ⟨.a85chT, 0x28, 0xF8⟩
  | .a85chTBad30to37 _ => ⟨.a85chT, 0x30, 0xF8⟩
  | .a85chTBad38to3B _ => ⟨.a85chT, 0x38, 0xFC⟩
  | .a85chTBad3Cto3D _ => ⟨.a85chT, 0x3C, 0xFE⟩
  | .a85chTBad3F => ⟨.a85chT, 0x3F, 0xFF⟩
  | .a85chTBad40to7F _ => ⟨.a85chT, 0x40, 0xC0⟩
  | .a85chTBad80toFF _ => ⟨.a85chT, 0x80, 0x80⟩
  | .ahxchWs00 => ⟨.ahxch, 0x00, 0xFF⟩
  | .ahxchWs09 => ⟨.ahxch, 0x09, 0xFF⟩
  | .ahxchWs0A => ⟨.ahxch, 0x0A, 0xFF⟩
  | .ahxchWs0Cto0D _ => ⟨.ahxch, 0x0C, 0xFE⟩
  | .ahxchWs20 => ⟨.ahxch, 0x20, 0xFF⟩
  | .ahxchHex30to37 _ => ⟨.ahxch, 0x30, 0xF8⟩
  | .ahxchHex38to39 _ => ⟨.ahxch, 0x38, 0xFE⟩
  | .ahxchHex41 => ⟨.ahxch, 0x41, 0xFF⟩
  | .ahxchHex42to43 _ => ⟨.ahxch, 0x42, 0xFE⟩
  | .ahxchHex44to45 _ => ⟨.ahxch, 0x44, 0xFE⟩
  | .ahxchHex46 => ⟨.ahxch, 0x46, 0xFF⟩
  | .ahxchHex61 => ⟨.ahxch, 0x61, 0xFF⟩
  | .ahxchHex62to63 _ => ⟨.ahxch, 0x62, 0xFE⟩
  | .ahxchHex64to65 _ => ⟨.ahxch, 0x64, 0xFE⟩
  | .ahxchHex66 => ⟨.ahxch, 0x66, 0xFF⟩
  | .ahxchGt3E => ⟨.ahxch, 0x3E, 0xFF⟩
  | .ahxchBad01 => ⟨.ahxch, 0x01, 0xFF⟩
  | .ahxchBad02to03 _ => ⟨.ahxch, 0x02, 0xFE⟩
  | .ahxchBad04to07 _ => ⟨.ahxch, 0x04, 0xFC⟩
  | .ahxchBad08 => ⟨.ahxch, 0x08, 0xFF⟩
  | .ahxchBad0B => ⟨.ahxch, 0x0B, 0xFF⟩
  | .ahxchBad0Eto0F _ => ⟨.ahxch, 0x0E, 0xFE⟩
  | .ahxchBad10to1F _ => ⟨.ahxch, 0x10, 0xF0⟩
  | .ahxchBad21 => ⟨.ahxch, 0x21, 0xFF⟩
  | .ahxchBad22to23 _ => ⟨.ahxch, 0x22, 0xFE⟩
  | .ahxchBad24to27 _ => ⟨.ahxch, 0x24, 0xFC⟩
  | .ahxchBad28to2F _ => ⟨.ahxch, 0x28, 0xF8⟩
  | .ahxchBad3Ato3B _ => ⟨.ahxch, 0x3A, 0xFE⟩
  | .ahxchBad3Cto3D _ => ⟨.ahxch, 0x3C, 0xFE⟩
  | .ahxchBad3F => ⟨.ahxch, 0x3F, 0xFF⟩
  | .ahxchBad40 => ⟨.ahxch, 0x40, 0xFF⟩
  | .ahxchBad47 => ⟨.ahxch, 0x47, 0xFF⟩
  | .ahxchBad48to4F _ => ⟨.ahxch, 0x48, 0xF8⟩
  | .ahxchBad50to5F _ => ⟨.ahxch, 0x50, 0xF0⟩
  | .ahxchBad60 => ⟨.ahxch, 0x60, 0xFF⟩
  | .ahxchBad67 => ⟨.ahxch, 0x67, 0xFF⟩
  | .ahxchBad68to6F _ => ⟨.ahxch, 0x68, 0xF8⟩
  | .ahxchBad70to7F _ => ⟨.ahxch, 0x70, 0xF0⟩
  | .ahxchBad80toFF _ => ⟨.ahxch, 0x80, 0x80⟩
  | .lzwcodeLit000to0FF _ => ⟨.lzwcode, 0x000, 0xF00⟩
  | .lzwcodeClear100 => ⟨.lzwcode, 0x100, 0xFFF⟩
  | .lzwcodeEod101 => ⟨.lzwcode, 0x101, 0xFFF⟩
  | .lzwcodeRef102to103 _ => ⟨.lzwcode, 0x102, 0xFFE⟩
  | .lzwcodeRef104to107 _ => ⟨.lzwcode, 0x104, 0xFFC⟩
  | .lzwcodeRef108to10F _ => ⟨.lzwcode, 0x108, 0xFF8⟩
  | .lzwcodeRef110to11F _ => ⟨.lzwcode, 0x110, 0xFF0⟩
  | .lzwcodeRef120to13F _ => ⟨.lzwcode, 0x120, 0xFE0⟩
  | .lzwcodeRef140to17F _ => ⟨.lzwcode, 0x140, 0xFC0⟩
  | .lzwcodeRef180to1FF _ => ⟨.lzwcode, 0x180, 0xF80⟩
  | .lzwcodeRef200to3FF _ => ⟨.lzwcode, 0x200, 0xE00⟩
  | .lzwcodeRef400to7FF _ => ⟨.lzwcode, 0x400, 0xC00⟩
  | .lzwcodeRef800toFFF _ => ⟨.lzwcode, 0x800, 0x800⟩
  | .pngtagNone00 => ⟨.pngtag, 0x00, 0xFF⟩
  | .pngtagSub01 => ⟨.pngtag, 0x01, 0xFF⟩
  | .pngtagUp02 => ⟨.pngtag, 0x02, 0xFF⟩
  | .pngtagAvg03 => ⟨.pngtag, 0x03, 0xFF⟩
  | .pngtagPaeth04 => ⟨.pngtag, 0x04, 0xFF⟩
  | .pngtagBad05 => ⟨.pngtag, 0x05, 0xFF⟩
  | .pngtagBad06to07 _ => ⟨.pngtag, 0x06, 0xFE⟩
  | .pngtagBad08to0F _ => ⟨.pngtag, 0x08, 0xF8⟩
  | .pngtagBad10to1F _ => ⟨.pngtag, 0x10, 0xF0⟩
  | .pngtagBad20to3F _ => ⟨.pngtag, 0x20, 0xE0⟩
  | .pngtagBad40to7F _ => ⟨.pngtag, 0x40, 0xC0⟩
  | .pngtagBad80toFF _ => ⟨.pngtag, 0x80, 0x80⟩

/-- The encoding of a well-formed instruction belongs to its row (R107: `v & mask == match`). -/
def Statement (i : Instr) : Prop :=
  i.wf = true → formatOf (encode i) = (row i).format ∧ bitsOf (encode i) &&& (row i).mask = (row i).pattern

theorem toNat_and {n : Nat} {v m p : BitVec n} (h : (v &&& m == p) = true) :
    v.toNat &&& m.toNat = p.toNat := by
  rw [← BitVec.toNat_and, beq_iff_eq.1 h]

theorem nop : Statement .nop := fun _ => ⟨rfl, rfl⟩
theorem startA85Dec : Statement .startA85Dec := fun _ => ⟨rfl, rfl⟩
theorem startA85Enc : Statement .startA85Enc := fun _ => ⟨rfl, rfl⟩
theorem startAhxDec : Statement .startAhxDec := fun _ => ⟨rfl, rfl⟩
theorem startAhxEnc : Statement .startAhxEnc := fun _ => ⟨rfl, rfl⟩
theorem startLzwDec : Statement .startLzwDec := fun _ => ⟨rfl, rfl⟩
theorem startLzwEnc : Statement .startLzwEnc := fun _ => ⟨rfl, rfl⟩
theorem startPredDec : Statement .startPredDec := fun _ => ⟨rfl, rfl⟩
theorem startPredEnc : Statement .startPredEnc := fun _ => ⟨rfl, rfl⟩
theorem push : Statement .push := fun _ => ⟨rfl, rfl⟩
theorem finish : Statement .finish := fun _ => ⟨rfl, rfl⟩
theorem abort : Statement .abort := fun _ => ⟨rfl, rfl⟩
theorem a85chWs00 : Statement .a85chWs00 := fun _ => ⟨rfl, rfl⟩
theorem a85chWs09 : Statement .a85chWs09 := fun _ => ⟨rfl, rfl⟩
theorem a85chWs0A : Statement .a85chWs0A := fun _ => ⟨rfl, rfl⟩
theorem a85chWs0Cto0D (ch : Byte) : Statement (.a85chWs0Cto0D ch) := fun h =>
  ⟨rfl, toNat_and (m := 0xFE#8) (p := 0x0C#8) h⟩
theorem a85chWs20 : Statement .a85chWs20 := fun _ => ⟨rfl, rfl⟩
theorem a85chDigit21 : Statement .a85chDigit21 := fun _ => ⟨rfl, rfl⟩
theorem a85chDigit22to23 (ch : Byte) : Statement (.a85chDigit22to23 ch) := fun h =>
  ⟨rfl, toNat_and (m := 0xFE#8) (p := 0x22#8) h⟩
theorem a85chDigit24to27 (ch : Byte) : Statement (.a85chDigit24to27 ch) := fun h =>
  ⟨rfl, toNat_and (m := 0xFC#8) (p := 0x24#8) h⟩
theorem a85chDigit28to2F (ch : Byte) : Statement (.a85chDigit28to2F ch) := fun h =>
  ⟨rfl, toNat_and (m := 0xF8#8) (p := 0x28#8) h⟩
theorem a85chDigit30to3F (ch : Byte) : Statement (.a85chDigit30to3F ch) := fun h =>
  ⟨rfl, toNat_and (m := 0xF0#8) (p := 0x30#8) h⟩
theorem a85chDigit40to5F (ch : Byte) : Statement (.a85chDigit40to5F ch) := fun h =>
  ⟨rfl, toNat_and (m := 0xE0#8) (p := 0x40#8) h⟩
theorem a85chDigit60to6F (ch : Byte) : Statement (.a85chDigit60to6F ch) := fun h =>
  ⟨rfl, toNat_and (m := 0xF0#8) (p := 0x60#8) h⟩
theorem a85chDigit70to73 (ch : Byte) : Statement (.a85chDigit70to73 ch) := fun h =>
  ⟨rfl, toNat_and (m := 0xFC#8) (p := 0x70#8) h⟩
theorem a85chDigit74to75 (ch : Byte) : Statement (.a85chDigit74to75 ch) := fun h =>
  ⟨rfl, toNat_and (m := 0xFE#8) (p := 0x74#8) h⟩
theorem a85chZ7A : Statement .a85chZ7A := fun _ => ⟨rfl, rfl⟩
theorem a85chTilde7E : Statement .a85chTilde7E := fun _ => ⟨rfl, rfl⟩
theorem a85chBad01 : Statement .a85chBad01 := fun _ => ⟨rfl, rfl⟩
theorem a85chBad02to03 (ch : Byte) : Statement (.a85chBad02to03 ch) := fun h =>
  ⟨rfl, toNat_and (m := 0xFE#8) (p := 0x02#8) h⟩
theorem a85chBad04to07 (ch : Byte) : Statement (.a85chBad04to07 ch) := fun h =>
  ⟨rfl, toNat_and (m := 0xFC#8) (p := 0x04#8) h⟩
theorem a85chBad08 : Statement .a85chBad08 := fun _ => ⟨rfl, rfl⟩
theorem a85chBad0B : Statement .a85chBad0B := fun _ => ⟨rfl, rfl⟩
theorem a85chBad0Eto0F (ch : Byte) : Statement (.a85chBad0Eto0F ch) := fun h =>
  ⟨rfl, toNat_and (m := 0xFE#8) (p := 0x0E#8) h⟩
theorem a85chBad10to1F (ch : Byte) : Statement (.a85chBad10to1F ch) := fun h =>
  ⟨rfl, toNat_and (m := 0xF0#8) (p := 0x10#8) h⟩
theorem a85chBad76to77 (ch : Byte) : Statement (.a85chBad76to77 ch) := fun h =>
  ⟨rfl, toNat_and (m := 0xFE#8) (p := 0x76#8) h⟩
theorem a85chBad78to79 (ch : Byte) : Statement (.a85chBad78to79 ch) := fun h =>
  ⟨rfl, toNat_and (m := 0xFE#8) (p := 0x78#8) h⟩
theorem a85chBad7B : Statement .a85chBad7B := fun _ => ⟨rfl, rfl⟩
theorem a85chBad7Cto7D (ch : Byte) : Statement (.a85chBad7Cto7D ch) := fun h =>
  ⟨rfl, toNat_and (m := 0xFE#8) (p := 0x7C#8) h⟩
theorem a85chBad7F : Statement .a85chBad7F := fun _ => ⟨rfl, rfl⟩
theorem a85chBad80toFF (ch : Byte) : Statement (.a85chBad80toFF ch) := fun h =>
  ⟨rfl, toNat_and (m := 0x80#8) (p := 0x80#8) h⟩
theorem a85chTWs00 : Statement .a85chTWs00 := fun _ => ⟨rfl, rfl⟩
theorem a85chTWs09 : Statement .a85chTWs09 := fun _ => ⟨rfl, rfl⟩
theorem a85chTWs0A : Statement .a85chTWs0A := fun _ => ⟨rfl, rfl⟩
theorem a85chTWs0Cto0D (ch : Byte) : Statement (.a85chTWs0Cto0D ch) := fun h =>
  ⟨rfl, toNat_and (m := 0xFE#8) (p := 0x0C#8) h⟩
theorem a85chTWs20 : Statement .a85chTWs20 := fun _ => ⟨rfl, rfl⟩
theorem a85chTGt3E : Statement .a85chTGt3E := fun _ => ⟨rfl, rfl⟩
theorem a85chTBad01 : Statement .a85chTBad01 := fun _ => ⟨rfl, rfl⟩
theorem a85chTBad02to03 (ch : Byte) : Statement (.a85chTBad02to03 ch) := fun h =>
  ⟨rfl, toNat_and (m := 0xFE#8) (p := 0x02#8) h⟩
theorem a85chTBad04to07 (ch : Byte) : Statement (.a85chTBad04to07 ch) := fun h =>
  ⟨rfl, toNat_and (m := 0xFC#8) (p := 0x04#8) h⟩
theorem a85chTBad08 : Statement .a85chTBad08 := fun _ => ⟨rfl, rfl⟩
theorem a85chTBad0B : Statement .a85chTBad0B := fun _ => ⟨rfl, rfl⟩
theorem a85chTBad0Eto0F (ch : Byte) : Statement (.a85chTBad0Eto0F ch) := fun h =>
  ⟨rfl, toNat_and (m := 0xFE#8) (p := 0x0E#8) h⟩
theorem a85chTBad10to1F (ch : Byte) : Statement (.a85chTBad10to1F ch) := fun h =>
  ⟨rfl, toNat_and (m := 0xF0#8) (p := 0x10#8) h⟩
theorem a85chTBad21 : Statement .a85chTBad21 := fun _ => ⟨rfl, rfl⟩
theorem a85chTBad22to23 (ch : Byte) : Statement (.a85chTBad22to23 ch) := fun h =>
  ⟨rfl, toNat_and (m := 0xFE#8) (p := 0x22#8) h⟩
theorem a85chTBad24to27 (ch : Byte) : Statement (.a85chTBad24to27 ch) := fun h =>
  ⟨rfl, toNat_and (m := 0xFC#8) (p := 0x24#8) h⟩
theorem a85chTBad28to2F (ch : Byte) : Statement (.a85chTBad28to2F ch) := fun h =>
  ⟨rfl, toNat_and (m := 0xF8#8) (p := 0x28#8) h⟩
theorem a85chTBad30to37 (ch : Byte) : Statement (.a85chTBad30to37 ch) := fun h =>
  ⟨rfl, toNat_and (m := 0xF8#8) (p := 0x30#8) h⟩
theorem a85chTBad38to3B (ch : Byte) : Statement (.a85chTBad38to3B ch) := fun h =>
  ⟨rfl, toNat_and (m := 0xFC#8) (p := 0x38#8) h⟩
theorem a85chTBad3Cto3D (ch : Byte) : Statement (.a85chTBad3Cto3D ch) := fun h =>
  ⟨rfl, toNat_and (m := 0xFE#8) (p := 0x3C#8) h⟩
theorem a85chTBad3F : Statement .a85chTBad3F := fun _ => ⟨rfl, rfl⟩
theorem a85chTBad40to7F (ch : Byte) : Statement (.a85chTBad40to7F ch) := fun h =>
  ⟨rfl, toNat_and (m := 0xC0#8) (p := 0x40#8) h⟩
theorem a85chTBad80toFF (ch : Byte) : Statement (.a85chTBad80toFF ch) := fun h =>
  ⟨rfl, toNat_and (m := 0x80#8) (p := 0x80#8) h⟩
theorem ahxchWs00 : Statement .ahxchWs00 := fun _ => ⟨rfl, rfl⟩
theorem ahxchWs09 : Statement .ahxchWs09 := fun _ => ⟨rfl, rfl⟩
theorem ahxchWs0A : Statement .ahxchWs0A := fun _ => ⟨rfl, rfl⟩
theorem ahxchWs0Cto0D (ch : Byte) : Statement (.ahxchWs0Cto0D ch) := fun h =>
  ⟨rfl, toNat_and (m := 0xFE#8) (p := 0x0C#8) h⟩
theorem ahxchWs20 : Statement .ahxchWs20 := fun _ => ⟨rfl, rfl⟩
theorem ahxchHex30to37 (ch : Byte) : Statement (.ahxchHex30to37 ch) := fun h =>
  ⟨rfl, toNat_and (m := 0xF8#8) (p := 0x30#8) h⟩
theorem ahxchHex38to39 (ch : Byte) : Statement (.ahxchHex38to39 ch) := fun h =>
  ⟨rfl, toNat_and (m := 0xFE#8) (p := 0x38#8) h⟩
theorem ahxchHex41 : Statement .ahxchHex41 := fun _ => ⟨rfl, rfl⟩
theorem ahxchHex42to43 (ch : Byte) : Statement (.ahxchHex42to43 ch) := fun h =>
  ⟨rfl, toNat_and (m := 0xFE#8) (p := 0x42#8) h⟩
theorem ahxchHex44to45 (ch : Byte) : Statement (.ahxchHex44to45 ch) := fun h =>
  ⟨rfl, toNat_and (m := 0xFE#8) (p := 0x44#8) h⟩
theorem ahxchHex46 : Statement .ahxchHex46 := fun _ => ⟨rfl, rfl⟩
theorem ahxchHex61 : Statement .ahxchHex61 := fun _ => ⟨rfl, rfl⟩
theorem ahxchHex62to63 (ch : Byte) : Statement (.ahxchHex62to63 ch) := fun h =>
  ⟨rfl, toNat_and (m := 0xFE#8) (p := 0x62#8) h⟩
theorem ahxchHex64to65 (ch : Byte) : Statement (.ahxchHex64to65 ch) := fun h =>
  ⟨rfl, toNat_and (m := 0xFE#8) (p := 0x64#8) h⟩
theorem ahxchHex66 : Statement .ahxchHex66 := fun _ => ⟨rfl, rfl⟩
theorem ahxchGt3E : Statement .ahxchGt3E := fun _ => ⟨rfl, rfl⟩
theorem ahxchBad01 : Statement .ahxchBad01 := fun _ => ⟨rfl, rfl⟩
theorem ahxchBad02to03 (ch : Byte) : Statement (.ahxchBad02to03 ch) := fun h =>
  ⟨rfl, toNat_and (m := 0xFE#8) (p := 0x02#8) h⟩
theorem ahxchBad04to07 (ch : Byte) : Statement (.ahxchBad04to07 ch) := fun h =>
  ⟨rfl, toNat_and (m := 0xFC#8) (p := 0x04#8) h⟩
theorem ahxchBad08 : Statement .ahxchBad08 := fun _ => ⟨rfl, rfl⟩
theorem ahxchBad0B : Statement .ahxchBad0B := fun _ => ⟨rfl, rfl⟩
theorem ahxchBad0Eto0F (ch : Byte) : Statement (.ahxchBad0Eto0F ch) := fun h =>
  ⟨rfl, toNat_and (m := 0xFE#8) (p := 0x0E#8) h⟩
theorem ahxchBad10to1F (ch : Byte) : Statement (.ahxchBad10to1F ch) := fun h =>
  ⟨rfl, toNat_and (m := 0xF0#8) (p := 0x10#8) h⟩
theorem ahxchBad21 : Statement .ahxchBad21 := fun _ => ⟨rfl, rfl⟩
theorem ahxchBad22to23 (ch : Byte) : Statement (.ahxchBad22to23 ch) := fun h =>
  ⟨rfl, toNat_and (m := 0xFE#8) (p := 0x22#8) h⟩
theorem ahxchBad24to27 (ch : Byte) : Statement (.ahxchBad24to27 ch) := fun h =>
  ⟨rfl, toNat_and (m := 0xFC#8) (p := 0x24#8) h⟩
theorem ahxchBad28to2F (ch : Byte) : Statement (.ahxchBad28to2F ch) := fun h =>
  ⟨rfl, toNat_and (m := 0xF8#8) (p := 0x28#8) h⟩
theorem ahxchBad3Ato3B (ch : Byte) : Statement (.ahxchBad3Ato3B ch) := fun h =>
  ⟨rfl, toNat_and (m := 0xFE#8) (p := 0x3A#8) h⟩
theorem ahxchBad3Cto3D (ch : Byte) : Statement (.ahxchBad3Cto3D ch) := fun h =>
  ⟨rfl, toNat_and (m := 0xFE#8) (p := 0x3C#8) h⟩
theorem ahxchBad3F : Statement .ahxchBad3F := fun _ => ⟨rfl, rfl⟩
theorem ahxchBad40 : Statement .ahxchBad40 := fun _ => ⟨rfl, rfl⟩
theorem ahxchBad47 : Statement .ahxchBad47 := fun _ => ⟨rfl, rfl⟩
theorem ahxchBad48to4F (ch : Byte) : Statement (.ahxchBad48to4F ch) := fun h =>
  ⟨rfl, toNat_and (m := 0xF8#8) (p := 0x48#8) h⟩
theorem ahxchBad50to5F (ch : Byte) : Statement (.ahxchBad50to5F ch) := fun h =>
  ⟨rfl, toNat_and (m := 0xF0#8) (p := 0x50#8) h⟩
theorem ahxchBad60 : Statement .ahxchBad60 := fun _ => ⟨rfl, rfl⟩
theorem ahxchBad67 : Statement .ahxchBad67 := fun _ => ⟨rfl, rfl⟩
theorem ahxchBad68to6F (ch : Byte) : Statement (.ahxchBad68to6F ch) := fun h =>
  ⟨rfl, toNat_and (m := 0xF8#8) (p := 0x68#8) h⟩
theorem ahxchBad70to7F (ch : Byte) : Statement (.ahxchBad70to7F ch) := fun h =>
  ⟨rfl, toNat_and (m := 0xF0#8) (p := 0x70#8) h⟩
theorem ahxchBad80toFF (ch : Byte) : Statement (.ahxchBad80toFF ch) := fun h =>
  ⟨rfl, toNat_and (m := 0x80#8) (p := 0x80#8) h⟩
theorem lzwcodeLit000to0FF (code : Code) : Statement (.lzwcodeLit000to0FF code) := fun h =>
  ⟨rfl, toNat_and (m := 0xF00#12) (p := 0x000#12) h⟩
theorem lzwcodeClear100 : Statement .lzwcodeClear100 := fun _ => ⟨rfl, rfl⟩
theorem lzwcodeEod101 : Statement .lzwcodeEod101 := fun _ => ⟨rfl, rfl⟩
theorem lzwcodeRef102to103 (code : Code) : Statement (.lzwcodeRef102to103 code) := fun h =>
  ⟨rfl, toNat_and (m := 0xFFE#12) (p := 0x102#12) h⟩
theorem lzwcodeRef104to107 (code : Code) : Statement (.lzwcodeRef104to107 code) := fun h =>
  ⟨rfl, toNat_and (m := 0xFFC#12) (p := 0x104#12) h⟩
theorem lzwcodeRef108to10F (code : Code) : Statement (.lzwcodeRef108to10F code) := fun h =>
  ⟨rfl, toNat_and (m := 0xFF8#12) (p := 0x108#12) h⟩
theorem lzwcodeRef110to11F (code : Code) : Statement (.lzwcodeRef110to11F code) := fun h =>
  ⟨rfl, toNat_and (m := 0xFF0#12) (p := 0x110#12) h⟩
theorem lzwcodeRef120to13F (code : Code) : Statement (.lzwcodeRef120to13F code) := fun h =>
  ⟨rfl, toNat_and (m := 0xFE0#12) (p := 0x120#12) h⟩
theorem lzwcodeRef140to17F (code : Code) : Statement (.lzwcodeRef140to17F code) := fun h =>
  ⟨rfl, toNat_and (m := 0xFC0#12) (p := 0x140#12) h⟩
theorem lzwcodeRef180to1FF (code : Code) : Statement (.lzwcodeRef180to1FF code) := fun h =>
  ⟨rfl, toNat_and (m := 0xF80#12) (p := 0x180#12) h⟩
theorem lzwcodeRef200to3FF (code : Code) : Statement (.lzwcodeRef200to3FF code) := fun h =>
  ⟨rfl, toNat_and (m := 0xE00#12) (p := 0x200#12) h⟩
theorem lzwcodeRef400to7FF (code : Code) : Statement (.lzwcodeRef400to7FF code) := fun h =>
  ⟨rfl, toNat_and (m := 0xC00#12) (p := 0x400#12) h⟩
theorem lzwcodeRef800toFFF (code : Code) : Statement (.lzwcodeRef800toFFF code) := fun h =>
  ⟨rfl, toNat_and (m := 0x800#12) (p := 0x800#12) h⟩
theorem pngtagNone00 : Statement .pngtagNone00 := fun _ => ⟨rfl, rfl⟩
theorem pngtagSub01 : Statement .pngtagSub01 := fun _ => ⟨rfl, rfl⟩
theorem pngtagUp02 : Statement .pngtagUp02 := fun _ => ⟨rfl, rfl⟩
theorem pngtagAvg03 : Statement .pngtagAvg03 := fun _ => ⟨rfl, rfl⟩
theorem pngtagPaeth04 : Statement .pngtagPaeth04 := fun _ => ⟨rfl, rfl⟩
theorem pngtagBad05 : Statement .pngtagBad05 := fun _ => ⟨rfl, rfl⟩
theorem pngtagBad06to07 (tag : Byte) : Statement (.pngtagBad06to07 tag) := fun h =>
  ⟨rfl, toNat_and (m := 0xFE#8) (p := 0x06#8) h⟩
theorem pngtagBad08to0F (tag : Byte) : Statement (.pngtagBad08to0F tag) := fun h =>
  ⟨rfl, toNat_and (m := 0xF8#8) (p := 0x08#8) h⟩
theorem pngtagBad10to1F (tag : Byte) : Statement (.pngtagBad10to1F tag) := fun h =>
  ⟨rfl, toNat_and (m := 0xF0#8) (p := 0x10#8) h⟩
theorem pngtagBad20to3F (tag : Byte) : Statement (.pngtagBad20to3F tag) := fun h =>
  ⟨rfl, toNat_and (m := 0xE0#8) (p := 0x20#8) h⟩
theorem pngtagBad40to7F (tag : Byte) : Statement (.pngtagBad40to7F tag) := fun h =>
  ⟨rfl, toNat_and (m := 0xC0#8) (p := 0x40#8) h⟩
theorem pngtagBad80toFF (tag : Byte) : Statement (.pngtagBad80toFF tag) := fun h =>
  ⟨rfl, toNat_and (m := 0x80#8) (p := 0x80#8) h⟩

end Sys2Proof.Laws.RowBits
end

