-- ==== Sys2Proof/Tests/Slice0.lean ====
section
/-! SUPPORT. Tests: decoding and well-formedness against the opcode table, single steps against the vectors of
95_test_vectors.md, and for every statement with hypotheses a state and operands that meet them. -/

namespace Sys2Proof.Tests

open Sys2Proof Sys2Proof.Machine

/-! ## Decoding: the words of spec/opcode_table.json, written out from its `match` and `hi` (R92, R96, R98 to R100) -/

theorem test_decode_cmd_1 :
    ∀ p ∈ ((
    [(0x00000000#32, .nop), (0x00000001#32, .startA85Dec), (0x00000081#32, .startA85Enc),
      (0x00000011#32, .startAhxDec), (0x00000091#32, .startAhxEnc), (0x00000021#32, .startLzwDec),
      (0x000000A1#32, .startLzwEnc), (0x00000031#32, .startPredDec), (0x000000B1#32, .startPredEnc),
      (0x00000002#32, .push), (0x00000003#32, .finish), (0x00000004#32, .abort)] :
      List (Word × Instr))), decode (.cmd p.1) = some p.2 := by decide

theorem test_decode_a85ch_1 :
    ∀ p ∈ ((
    [(0x00#8, .a85chWs00), (0x09#8, .a85chWs09), (0x0A#8, .a85chWs0A), (0x0C#8, .a85chWs0Cto0D 0x0C#8),
      (0x0D#8, .a85chWs0Cto0D 0x0D#8), (0x20#8, .a85chWs20), (0x21#8, .a85chDigit21),
      (0x22#8, .a85chDigit22to23 0x22#8), (0x23#8, .a85chDigit22to23 0x23#8),
      (0x24#8, .a85chDigit24to27 0x24#8), (0x27#8, .a85chDigit24to27 0x27#8),
      (0x28#8, .a85chDigit28to2F 0x28#8), (0x2F#8, .a85chDigit28to2F 0x2F#8),
      (0x30#8, .a85chDigit30to3F 0x30#8), (0x3F#8, .a85chDigit30to3F 0x3F#8),
      (0x40#8, .a85chDigit40to5F 0x40#8)] :
      List (Byte × Instr))), decode (.a85ch p.1) = some p.2 := by decide

theorem test_decode_a85ch_2 :
    ∀ p ∈ ((
    [(0x5F#8, .a85chDigit40to5F 0x5F#8), (0x60#8, .a85chDigit60to6F 0x60#8),
      (0x6F#8, .a85chDigit60to6F 0x6F#8), (0x70#8, .a85chDigit70to73 0x70#8),
      (0x73#8, .a85chDigit70to73 0x73#8), (0x74#8, .a85chDigit74to75 0x74#8),
      (0x75#8, .a85chDigit74to75 0x75#8), (0x7A#8, .a85chZ7A), (0x7E#8, .a85chTilde7E),
      (0x01#8, .a85chBad01), (0x02#8, .a85chBad02to03 0x02#8), (0x03#8, .a85chBad02to03 0x03#8),
      (0x04#8, .a85chBad04to07 0x04#8), (0x07#8, .a85chBad04to07 0x07#8), (0x08#8, .a85chBad08),
      (0x0B#8, .a85chBad0B)] :
      List (Byte × Instr))), decode (.a85ch p.1) = some p.2 := by decide

theorem test_decode_a85ch_3 :
    ∀ p ∈ ((
    [(0x0E#8, .a85chBad0Eto0F 0x0E#8), (0x0F#8, .a85chBad0Eto0F 0x0F#8), (0x10#8, .a85chBad10to1F 0x10#8),
      (0x1F#8, .a85chBad10to1F 0x1F#8), (0x76#8, .a85chBad76to77 0x76#8), (0x77#8, .a85chBad76to77 0x77#8),
      (0x78#8, .a85chBad78to79 0x78#8), (0x79#8, .a85chBad78to79 0x79#8), (0x7B#8, .a85chBad7B),
      (0x7C#8, .a85chBad7Cto7D 0x7C#8), (0x7D#8, .a85chBad7Cto7D 0x7D#8), (0x7F#8, .a85chBad7F),
      (0x80#8, .a85chBad80toFF 0x80#8), (0xFF#8, .a85chBad80toFF 0xFF#8)] :
      List (Byte × Instr))), decode (.a85ch p.1) = some p.2 := by decide

theorem test_decode_a85chT_1 :
    ∀ p ∈ ((
    [(0x00#8, .a85chTWs00), (0x09#8, .a85chTWs09), (0x0A#8, .a85chTWs0A), (0x0C#8, .a85chTWs0Cto0D 0x0C#8),
      (0x0D#8, .a85chTWs0Cto0D 0x0D#8), (0x20#8, .a85chTWs20), (0x3E#8, .a85chTGt3E),
      (0x01#8, .a85chTBad01), (0x02#8, .a85chTBad02to03 0x02#8), (0x03#8, .a85chTBad02to03 0x03#8),
      (0x04#8, .a85chTBad04to07 0x04#8), (0x07#8, .a85chTBad04to07 0x07#8), (0x08#8, .a85chTBad08),
      (0x0B#8, .a85chTBad0B), (0x0E#8, .a85chTBad0Eto0F 0x0E#8), (0x0F#8, .a85chTBad0Eto0F 0x0F#8)] :
      List (Byte × Instr))), decode (.a85chT p.1) = some p.2 := by decide

theorem test_decode_a85chT_2 :
    ∀ p ∈ ((
    [(0x10#8, .a85chTBad10to1F 0x10#8), (0x1F#8, .a85chTBad10to1F 0x1F#8), (0x21#8, .a85chTBad21),
      (0x22#8, .a85chTBad22to23 0x22#8), (0x23#8, .a85chTBad22to23 0x23#8),
      (0x24#8, .a85chTBad24to27 0x24#8), (0x27#8, .a85chTBad24to27 0x27#8),
      (0x28#8, .a85chTBad28to2F 0x28#8), (0x2F#8, .a85chTBad28to2F 0x2F#8),
      (0x30#8, .a85chTBad30to37 0x30#8), (0x37#8, .a85chTBad30to37 0x37#8),
      (0x38#8, .a85chTBad38to3B 0x38#8), (0x3B#8, .a85chTBad38to3B 0x3B#8),
      (0x3C#8, .a85chTBad3Cto3D 0x3C#8), (0x3D#8, .a85chTBad3Cto3D 0x3D#8), (0x3F#8, .a85chTBad3F)] :
      List (Byte × Instr))), decode (.a85chT p.1) = some p.2 := by decide

theorem test_decode_a85chT_3 :
    ∀ p ∈ ((
    [(0x40#8, .a85chTBad40to7F 0x40#8), (0x7F#8, .a85chTBad40to7F 0x7F#8),
      (0x80#8, .a85chTBad80toFF 0x80#8), (0xFF#8, .a85chTBad80toFF 0xFF#8)] :
      List (Byte × Instr))), decode (.a85chT p.1) = some p.2 := by decide

theorem test_decode_ahxch_1 :
    ∀ p ∈ ((
    [(0x00#8, .ahxchWs00), (0x09#8, .ahxchWs09), (0x0A#8, .ahxchWs0A), (0x0C#8, .ahxchWs0Cto0D 0x0C#8),
      (0x0D#8, .ahxchWs0Cto0D 0x0D#8), (0x20#8, .ahxchWs20), (0x30#8, .ahxchHex30to37 0x30#8),
      (0x37#8, .ahxchHex30to37 0x37#8), (0x38#8, .ahxchHex38to39 0x38#8), (0x39#8, .ahxchHex38to39 0x39#8),
      (0x41#8, .ahxchHex41), (0x42#8, .ahxchHex42to43 0x42#8), (0x43#8, .ahxchHex42to43 0x43#8),
      (0x44#8, .ahxchHex44to45 0x44#8), (0x45#8, .ahxchHex44to45 0x45#8), (0x46#8, .ahxchHex46)] :
      List (Byte × Instr))), decode (.ahxch p.1) = some p.2 := by decide

theorem test_decode_ahxch_2 :
    ∀ p ∈ ((
    [(0x61#8, .ahxchHex61), (0x62#8, .ahxchHex62to63 0x62#8), (0x63#8, .ahxchHex62to63 0x63#8),
      (0x64#8, .ahxchHex64to65 0x64#8), (0x65#8, .ahxchHex64to65 0x65#8), (0x66#8, .ahxchHex66),
      (0x3E#8, .ahxchGt3E), (0x01#8, .ahxchBad01), (0x02#8, .ahxchBad02to03 0x02#8),
      (0x03#8, .ahxchBad02to03 0x03#8), (0x04#8, .ahxchBad04to07 0x04#8), (0x07#8, .ahxchBad04to07 0x07#8),
      (0x08#8, .ahxchBad08), (0x0B#8, .ahxchBad0B), (0x0E#8, .ahxchBad0Eto0F 0x0E#8),
      (0x0F#8, .ahxchBad0Eto0F 0x0F#8)] :
      List (Byte × Instr))), decode (.ahxch p.1) = some p.2 := by decide

theorem test_decode_ahxch_3 :
    ∀ p ∈ ((
    [(0x10#8, .ahxchBad10to1F 0x10#8), (0x1F#8, .ahxchBad10to1F 0x1F#8), (0x21#8, .ahxchBad21),
      (0x22#8, .ahxchBad22to23 0x22#8), (0x23#8, .ahxchBad22to23 0x23#8), (0x24#8, .ahxchBad24to27 0x24#8),
      (0x27#8, .ahxchBad24to27 0x27#8), (0x28#8, .ahxchBad28to2F 0x28#8), (0x2F#8, .ahxchBad28to2F 0x2F#8),
      (0x3A#8, .ahxchBad3Ato3B 0x3A#8), (0x3B#8, .ahxchBad3Ato3B 0x3B#8), (0x3C#8, .ahxchBad3Cto3D 0x3C#8),
      (0x3D#8, .ahxchBad3Cto3D 0x3D#8), (0x3F#8, .ahxchBad3F), (0x40#8, .ahxchBad40), (0x47#8, .ahxchBad47)] :
      List (Byte × Instr))), decode (.ahxch p.1) = some p.2 := by decide

theorem test_decode_ahxch_4 :
    ∀ p ∈ ((
    [(0x48#8, .ahxchBad48to4F 0x48#8), (0x4F#8, .ahxchBad48to4F 0x4F#8), (0x50#8, .ahxchBad50to5F 0x50#8),
      (0x5F#8, .ahxchBad50to5F 0x5F#8), (0x60#8, .ahxchBad60), (0x67#8, .ahxchBad67),
      (0x68#8, .ahxchBad68to6F 0x68#8), (0x6F#8, .ahxchBad68to6F 0x6F#8), (0x70#8, .ahxchBad70to7F 0x70#8),
      (0x7F#8, .ahxchBad70to7F 0x7F#8), (0x80#8, .ahxchBad80toFF 0x80#8), (0xFF#8, .ahxchBad80toFF 0xFF#8)] :
      List (Byte × Instr))), decode (.ahxch p.1) = some p.2 := by decide

theorem test_decode_lzwcode_1 :
    ∀ p ∈ ((
    [(0x000#12, .lzwcodeLit000to0FF 0x000#12), (0x0FF#12, .lzwcodeLit000to0FF 0x0FF#12),
      (0x100#12, .lzwcodeClear100), (0x101#12, .lzwcodeEod101), (0x102#12, .lzwcodeRef102to103 0x102#12),
      (0x103#12, .lzwcodeRef102to103 0x103#12), (0x104#12, .lzwcodeRef104to107 0x104#12),
      (0x107#12, .lzwcodeRef104to107 0x107#12), (0x108#12, .lzwcodeRef108to10F 0x108#12),
      (0x10F#12, .lzwcodeRef108to10F 0x10F#12), (0x110#12, .lzwcodeRef110to11F 0x110#12),
      (0x11F#12, .lzwcodeRef110to11F 0x11F#12), (0x120#12, .lzwcodeRef120to13F 0x120#12),
      (0x13F#12, .lzwcodeRef120to13F 0x13F#12), (0x140#12, .lzwcodeRef140to17F 0x140#12),
      (0x17F#12, .lzwcodeRef140to17F 0x17F#12)] :
      List (Code × Instr))), decode (.lzwcode p.1) = some p.2 := by decide

theorem test_decode_lzwcode_2 :
    ∀ p ∈ ((
    [(0x180#12, .lzwcodeRef180to1FF 0x180#12), (0x1FF#12, .lzwcodeRef180to1FF 0x1FF#12),
      (0x200#12, .lzwcodeRef200to3FF 0x200#12), (0x3FF#12, .lzwcodeRef200to3FF 0x3FF#12),
      (0x400#12, .lzwcodeRef400to7FF 0x400#12), (0x7FF#12, .lzwcodeRef400to7FF 0x7FF#12),
      (0x800#12, .lzwcodeRef800toFFF 0x800#12), (0xFFF#12, .lzwcodeRef800toFFF 0xFFF#12)] :
      List (Code × Instr))), decode (.lzwcode p.1) = some p.2 := by decide

theorem test_decode_pngtag_1 :
    ∀ p ∈ ((
    [(0x00#8, .pngtagNone00), (0x01#8, .pngtagSub01), (0x02#8, .pngtagUp02), (0x03#8, .pngtagAvg03),
      (0x04#8, .pngtagPaeth04), (0x05#8, .pngtagBad05), (0x06#8, .pngtagBad06to07 0x06#8),
      (0x07#8, .pngtagBad06to07 0x07#8), (0x08#8, .pngtagBad08to0F 0x08#8),
      (0x0F#8, .pngtagBad08to0F 0x0F#8), (0x10#8, .pngtagBad10to1F 0x10#8),
      (0x1F#8, .pngtagBad10to1F 0x1F#8), (0x20#8, .pngtagBad20to3F 0x20#8),
      (0x3F#8, .pngtagBad20to3F 0x3F#8), (0x40#8, .pngtagBad40to7F 0x40#8),
      (0x7F#8, .pngtagBad40to7F 0x7F#8)] :
      List (Byte × Instr))), decode (.pngtag p.1) = some p.2 := by decide

theorem test_decode_pngtag_2 :
    ∀ p ∈ ((
    [(0x80#8, .pngtagBad80toFF 0x80#8), (0xFF#8, .pngtagBad80toFF 0xFF#8)] :
      List (Byte × Instr))), decode (.pngtag p.1) = some p.2 := by decide

/-- The words next to the twelve commands are no commands (R93). -/
theorem test_decode_illegal_commands :
    [0x05#32, 0x0F#32, 0x41#32, 0x71#32, 0xC1#32, 0x12#32, 0x80#32, 0x83#32, 0x84#32, 0x101#32,
      0x80000000#32].all (fun w => (decode (.cmd w)).isNone) = true := by decide

/-- A bare word of the table: 32 bits a command, 12 bits a code, 8 bits base-85 text; a code has 12 bits. -/
theorem test_decode_table_words :
    decodeTableWord 32 0xB1 = some .startPredEnc ∧ decodeTableWord 16 0xFFF = some (.lzwcodeRef800toFFF 0xFFF#12) ∧
    decodeTableWord 16 0x1000 = none ∧ decodeTableWord 8 0x75 = some (.a85chDigit74to75 0x75#8) := by decide

/-! ## WellFormed refuses the symbols outside a row's block (R107) -/

theorem test_wf_refuses_a85ch :
    ∀ i ∈ ((
    [.a85chWs0Cto0D 0x0E#8, .a85chDigit22to23 0x24#8, .a85chDigit24to27 0x28#8, .a85chDigit28to2F 0x30#8,
      .a85chDigit30to3F 0x40#8, .a85chDigit40to5F 0x60#8, .a85chDigit60to6F 0x70#8,
      .a85chDigit70to73 0x74#8, .a85chDigit74to75 0x76#8, .a85chBad02to03 0x04#8, .a85chBad04to07 0x08#8,
      .a85chBad0Eto0F 0x10#8, .a85chBad10to1F 0x20#8, .a85chBad76to77 0x78#8, .a85chBad78to79 0x7A#8,
      .a85chBad7Cto7D 0x7E#8, .a85chBad80toFF 0x00#8] : List Instr)), i.wf = false := by decide

theorem test_wf_refuses_a85chT :
    ∀ i ∈ ((
    [.a85chTWs0Cto0D 0x0E#8, .a85chTBad02to03 0x04#8, .a85chTBad04to07 0x08#8, .a85chTBad0Eto0F 0x10#8,
      .a85chTBad10to1F 0x20#8, .a85chTBad22to23 0x24#8, .a85chTBad24to27 0x28#8, .a85chTBad28to2F 0x30#8,
      .a85chTBad30to37 0x38#8, .a85chTBad38to3B 0x3C#8, .a85chTBad3Cto3D 0x3E#8, .a85chTBad40to7F 0x80#8,
      .a85chTBad80toFF 0x00#8] : List Instr)), i.wf = false := by decide

theorem test_wf_refuses_ahxch :
    ∀ i ∈ ((
    [.ahxchWs0Cto0D 0x0E#8, .ahxchHex30to37 0x38#8, .ahxchHex38to39 0x3A#8, .ahxchHex42to43 0x44#8,
      .ahxchHex44to45 0x46#8, .ahxchHex62to63 0x64#8, .ahxchHex64to65 0x66#8, .ahxchBad02to03 0x04#8,
      .ahxchBad04to07 0x08#8, .ahxchBad0Eto0F 0x10#8, .ahxchBad10to1F 0x20#8, .ahxchBad22to23 0x24#8,
      .ahxchBad24to27 0x28#8, .ahxchBad28to2F 0x30#8, .ahxchBad3Ato3B 0x3C#8, .ahxchBad3Cto3D 0x3E#8,
      .ahxchBad48to4F 0x50#8, .ahxchBad50to5F 0x60#8, .ahxchBad68to6F 0x70#8, .ahxchBad70to7F 0x80#8,
      .ahxchBad80toFF 0x00#8] : List Instr)), i.wf = false := by decide

theorem test_wf_refuses_lzwcode :
    ∀ i ∈ ((
    [.lzwcodeLit000to0FF 0x100#12, .lzwcodeRef102to103 0x104#12, .lzwcodeRef104to107 0x108#12,
      .lzwcodeRef108to10F 0x110#12, .lzwcodeRef110to11F 0x120#12, .lzwcodeRef120to13F 0x140#12,
      .lzwcodeRef140to17F 0x180#12, .lzwcodeRef180to1FF 0x200#12, .lzwcodeRef200to3FF 0x400#12,
      .lzwcodeRef400to7FF 0x800#12, .lzwcodeRef800toFFF 0x000#12] : List Instr)), i.wf = false := by decide

theorem test_wf_refuses_pngtag :
    ∀ i ∈ ((
    [.pngtagBad06to07 0x08#8, .pngtagBad08to0F 0x10#8, .pngtagBad10to1F 0x20#8, .pngtagBad20to3F 0x40#8,
      .pngtagBad40to7F 0x80#8, .pngtagBad80toFF 0x00#8] : List Instr)), i.wf = false := by decide

/-! ## Steps -/

/-- What a test looks at: `RSP`, the payload answered, `STATUS`. -/
def seen (o : Host.Outcome State Fault Refusal) : Option (Word × List Byte × Word) :=
  match o with
  | .next t => some (t.rsp, t.out, statusWord t)
  | _ => none

/-- The codec state after an instruction. -/
def codecOf (o : Host.Outcome State Fault Refusal) : Option Codec :=
  match o with
  | .next t => t.codec
  | _ => none

/-- Whether an outcome is a next state. -/
def goesOn (o : Host.Outcome State Fault Refusal) : Bool :=
  match o with
  | .next _ => true
  | _ => false

/-- An invocation at work, with the parameters of reset. -/
def at' (unit : CodecUnit) (dir : Direction) (codec : Codec) : State :=
  { State.reset with
    phase := .active, unit := unit, dir := dir, codec := some codec, latch := latchOf State.reset }

/-- A PRED invocation at work with `L_PRED` and `L_COLUMNS` given: one 8-bit component per pixel. -/
def predAt (dir : Direction) (pred columns : Word) (cur prev : List Byte) : State :=
  { at' .pred dir .pred with
    latch := { latchOf State.reset with pred := pred, columns := columns }
    rows := some { cur := cur, prev := prev } }

/-- A TIFF invocation at work with `L_BPC` and `L_COLUMNS` given, one colour. -/
def tiffAt (dir : Direction) (bpc columns : Word) (cur : List Byte) : State :=
  { predAt dir 2#32 columns cur [] with
    latch := { latchOf State.reset with pred := 2#32, bpc := bpc, columns := columns } }

/-- The A85 decoder with the digits and `tilde` given. -/
def a85At (dig : List Nat) (tilde : Bool) : State := at' .a85 .dec (.a85Dec { dig := dig, tilde := tilde })

/-- The AHX decoder with a waiting digit or none. -/
def ahxAt (waiting : Bool) (hi : BitVec 4) : State :=
  at' .ahx .dec (.ahxDec { waiting := waiting, hi := hi })

/-- The LZW decoder with the recorded strings and `last` given. -/
def lzwDecWith (tab : List (List Byte)) (last : Option Code) : LzwDec :=
  { tab := tab, tsize := 258 + tab.length, width := widthDec (258 + tab.length), acc := 0, nbits := 0,
    last := last }

def lzwAt (tab : List (List Byte)) (last : Option Code) : State :=
  at' .lzw .dec (.lzwDec (lzwDecWith tab last))

/-- A table of 3837 recorded strings: `tsize` 4095, full (R180). -/
def fullDec : LzwDec :=
  { tab := List.replicate 3837 [0x41#8, 0x41#8], tsize := 4095, width := 12, acc := 0, nbits := 0,
    last := some 0x41#12 }

/-- Expected words: R124 to R131 (the encodings) and R23 (the fields of `STATUS`). -/
theorem test_start_status :
    ∀ p ∈ [(Instr.startA85Dec, 0x01#32), (.startA85Enc, 0x21#32), (.startAhxDec, 0x05#32),
      (.startAhxEnc, 0x25#32), (.startLzwDec, 0x09#32), (.startLzwEnc, 0x29#32), (.startPredDec, 0x0D#32),
      (.startPredEnc, 0x2D#32)], seen (exec p.1 .reset) = some (0#32, [], p.2) := by decide

/-- R250: `CHAIN` for LZW with `L_PRED` 12, not for PRED. R262: `CFG_INVALID`. -/
theorem test_start_parameters :
    seen (exec .startLzwEnc { State.reset with predictor := 12#32 }) = some (0#32, [], 0x69#32) ∧
    seen (exec .startPredEnc { State.reset with predictor := 12#32 }) = some (0#32, [], 0x2D#32) ∧
    seen (exec .startPredDec { State.reset with predictor := 3#32 }) = some (0x20D#32, [], 0x30F#32) ∧
    seen (exec .startA85Dec { State.reset with predictor := 3#32 }) = some (0#32, [], 0x01#32) := by decide

/-- R120: the four commands that need no parameters, in phase IDLE. -/
theorem test_commands_idle :
    seen (exec .nop .reset) = some (0#32, [], 0#32) ∧
    seen (exec .push .reset) = some (0x10E#32, [], 0#32) ∧
    seen (exec .finish .reset) = some (0x10E#32, [], 0#32) ∧
    seen (exec .abort (a85At [1] true)) = some (0#32, [], 0#32) := by decide

/-- 95_test_vectors.md 1.1: "encoding the 4 bytes `0x00000000` yields `z`", and `9jqo^`. -/
theorem test_push_a85_enc :
    seen (exec .push { at' .a85 .enc (.a85Enc []) with inp := [0#8, 0#8, 0#8, 0#8] }) =
      some (0#32, [0x7A#8], 0x21#32) ∧
    seen (exec .push { at' .a85 .enc (.a85Enc []) with inp := [0x4D#8, 0x61#8, 0x6E#8, 0x20#8] }) =
      some (0#32, [0x39#8, 0x6A#8, 0x71#8, 0x6F#8, 0x5E#8], 0x21#32) := by decide

/-- 95_test_vectors.md 2.1: `4D 61` gives `9jn~>`, the empty stream `~>`. -/
theorem test_finish_a85_enc :
    seen (exec .finish (at' .a85 .enc (.a85Enc [0x4D#8, 0x61#8]))) =
      some (0#32, [0x39#8, 0x6A#8, 0x6E#8, 0x7E#8, 0x3E#8], 0x22#32) ∧
    seen (exec .finish (at' .a85 .enc (.a85Enc []))) = some (0#32, [0x7E#8, 0x3E#8], 0x22#32) := by decide

/-- 95_test_vectors.md 2.1: `9jqo^` is `4D 61 6E 20`; the group `s8W-"` is above `2^32 - 1`. -/
theorem test_a85_digit :
    seen (exec (.a85chDigit40to5F 0x5E#8) (a85At [24, 73, 80, 78] false)) =
      some (0#32, [0x4D#8, 0x61#8, 0x6E#8, 0x20#8], 0x01#32) ∧
    seen (exec (.a85chDigit22to23 0x22#8) (a85At [82, 23, 54, 12] false)) =
      some (0x00221305#32, [], 0x103#32) := by decide

/-- R37: "dig" holds the digits, already reduced by 33: every DIGIT row stores `ch - 33`. -/
theorem test_a85_digit_rows :
    ∀ p ∈ [(Instr.a85chDigit21, 0), (.a85chDigit22to23 0x23#8, 2), (.a85chDigit24to27 0x27#8, 6),
      (.a85chDigit28to2F 0x28#8, 7), (.a85chDigit30to3F 0x3F#8, 30), (.a85chDigit40to5F 0x40#8, 31),
      (.a85chDigit60to6F 0x6F#8, 78), (.a85chDigit70to73 0x70#8, 79), (.a85chDigit74to75 0x75#8, 84)],
      codecOf (exec p.1 (a85At [] false)) = some (.a85Dec { dig := [p.2], tilde := false }) := by decide

/-- R146, R148: `z` in a group faults with 0x7A; `~` sets `tilde`. -/
theorem test_a85_z_tilde :
    seen (exec .a85chZ7A (a85At [1, 2] false)) = some (0x007A1105#32, [], 0x103#32) ∧
    codecOf (exec .a85chTilde7E (a85At [5] false)) = some (.a85Dec { dig := [5], tilde := true }) := by decide

/-- 95_test_vectors.md 2.1: `9jn~>` ends in `4D 61`; `s~>` overflows with the symbol `>`. -/
theorem test_a85_gt :
    seen (exec .a85chTGt3E (a85At [24, 73, 77] true)) = some (0#32, [0x4D#8, 0x61#8], 0x81#32) ∧
    seen (exec .a85chTGt3E (a85At [82] true)) = some (0x003E1305#32, [], 0x103#32) := by decide

/-- 95_test_vectors.md 2.1: `v` is a bad character; `x` after `~` a bad terminator. -/
theorem test_a85_bad :
    seen (exec (.a85chBad76to77 0x76#8) (a85At [] false)) = some (0x00761005#32, [], 0x103#32) ∧
    seen (exec (.a85chTBad40to7F 0x78#8) (a85At [] true)) = some (0x00781205#32, [], 0x103#32) := by decide

/-- R161: `90 1F` in both cases of letter (95_test_vectors.md 2.2). -/
theorem test_push_ahx_enc :
    seen (exec .push { at' .ahx .enc .ahxEnc with inp := [0x90#8, 0x1F#8] }) =
      some (0#32, [0x39#8, 0x30#8, 0x31#8, 0x66#8], 0x25#32) ∧
    seen (exec .push { at' .ahx .enc .ahxEnc with
      inp := [0xA0#8], latch := { latchOf State.reset with hexup := true } }) =
      some (0#32, [0x41#8, 0x30#8], 0x25#32) := by decide

/-- R164: the digit of every HEX row, as the high nibble. -/
theorem test_ahx_hex_rows :
    ∀ p ∈ [(Instr.ahxchHex30to37 0x37#8, 7#4), (.ahxchHex38to39 0x39#8, 9#4), (.ahxchHex41, 10#4),
      (.ahxchHex42to43 0x43#8, 12#4), (.ahxchHex44to45 0x44#8, 13#4), (.ahxchHex46, 15#4),
      (.ahxchHex61, 10#4), (.ahxchHex62to63 0x62#8, 11#4), (.ahxchHex64to65 0x65#8, 14#4),
      (.ahxchHex66, 15#4)],
      codecOf (exec p.1 (ahxAt false 0#4)) = some (.ahxDec { waiting := true, hi := p.2 }) := by decide

/-- 95_test_vectors.md 2.2: `4D`, then `7>` is 70; `g` is bad. -/
theorem test_ahx_pair_gt_bad :
    seen (exec (.ahxchHex44to45 0x44#8) (ahxAt true 4#4)) = some (0#32, [0x4D#8], 0x05#32) ∧
    seen (exec .ahxchGt3E (ahxAt true 7#4)) = some (0#32, [0x70#8], 0x85#32) ∧
    seen (exec .ahxchBad67 (ahxAt false 0#4)) = some (0x00672005#32, [], 0x107#32) := by decide

/-- R150, R167, R186: FINISH of a decoder without its terminator (95_test_vectors.md 2.1 to 2.3). -/
theorem test_finish_decoders :
    seen (exec .finish (a85At [1] false)) = some (0x00001405#32, [], 0x103#32) ∧
    seen (exec .finish (ahxAt true 9#4)) = some (0x00002209#32, [], 0x207#32) ∧
    seen (exec .finish (ahxAt false 0#4)) = some (0x00002105#32, [], 0x107#32) ∧
    seen (exec .finish (lzwAt [] none)) = some (0x00003205#32, [], 0x10B#32) := by decide

/-- 95_test_vectors.md 2.3: the codes 65 and 258 of `41 41 41`, 259 after `41 42`, and 260 there. -/
theorem test_lzw_codes :
    seen (exec (.lzwcodeLit000to0FF 0x41#12) (lzwAt [] none)) = some (0#32, [0x41#8], 0x09#32) ∧
    seen (exec (.lzwcodeRef102to103 0x102#12) (lzwAt [] (some 0x41#12))) =
      some (0#32, [0x41#8, 0x41#8], 0x09#32) ∧
    codecOf (exec (.lzwcodeRef102to103 0x103#12) (lzwAt [[0x41#8, 0x42#8]] (some 0x42#12))) =
      some (.lzwDec { lzwDecWith [[0x41#8, 0x42#8], [0x42#8, 0x42#8]] (some 0x103#12) with width := 9 }) ∧
    seen (exec (.lzwcodeRef104to107 0x104#12) (lzwAt [[0x41#8, 0x42#8]] (some 0x42#12))) =
      some (0x01043005#32, [], 0x10B#32) := by decide

/-- R181, R182, R183: CLEAR and EOD; a REF as the first code faults with 0x102. -/
theorem test_lzw_clear_eod :
    codecOf (exec .lzwcodeClear100 (lzwAt [[0x41#8, 0x42#8]] (some 0x42#12))) =
      some (.lzwDec (lzwDecWith [] none)) ∧
    seen (exec .lzwcodeEod101 (lzwAt [] none)) = some (0#32, [], 0x89#32) ∧
    seen (exec (.lzwcodeRef102to103 0x102#12) (lzwAt [] none)) = some (0x01023005#32, [], 0x10B#32) := by decide

/-- 95_test_vectors.md 2.3: the stream `80 10 60 50 10` (codes 256 65 258 257) is `41 41 41`. -/
theorem test_push_lzw_dec :
    seen (exec .push { lzwAt [] none with inp := [0x80#8, 0x10#8, 0x60#8, 0x50#8, 0x10#8] }) =
      some (0#32, [0x41#8, 0x41#8, 0x41#8], 0x89#32) := by decide

/-- 95_test_vectors.md 2.3: `41 41` gives `80 10 48 30 10`; the empty stream `80 40 40`. -/
theorem test_lzw_enc :
    seen (exec .push { at' .lzw .enc (.lzwEnc (lzwEncInit true)) with inp := [0x41#8, 0x41#8] }) =
      some (0#32, [0x80#8, 0x10#8], 0x29#32) ∧
    seen (exec .finish (at' .lzw .enc (.lzwEnc (lzwEncInit true)))) =
      some (0#32, [0x80#8, 0x40#8, 0x40#8], 0x2A#32) := by decide

/-- 95_test_vectors.md 1.3: Sub on `0A 14 1E 28`, both directions. -/
theorem test_png_sub :
    seen (exec .pngtagSub01 (predAt .dec 11#32 4#32 [0x01#8, 0x0A#8, 0x0A#8, 0x0A#8, 0x0A#8] [0#8, 0#8, 0#8, 0#8])) =
      some (0#32, [0x0A#8, 0x14#8, 0x1E#8, 0x28#8], 0x0D#32) ∧
    seen (exec .push { predAt .enc 11#32 4#32 [] [0#8, 0#8, 0#8, 0#8] with
      inp := [0x0A#8, 0x14#8, 0x1E#8, 0x28#8] }) =
      some (0#32, [0x01#8, 0x0A#8, 0x0A#8, 0x0A#8, 0x0A#8], 0x2D#32) := by decide

/-- R224, R225, R226 by hand on one pixel of two bytes: `a` = 3, `b` = 8, `c` = 4 at the second byte. Up adds
8; Average adds floor((3 + 8) / 2) = 5; Paeth: p = 7, distances 4, 1, 3, so 8. -/
theorem test_png_filters :
    seen (exec .pngtagNone00 (predAt .dec 10#32 2#32 [0x00#8, 0x03#8, 0x01#8] [4#8, 8#8])) =
      some (0#32, [3#8, 1#8], 0x0D#32) ∧
    seen (exec .pngtagUp02 (predAt .dec 10#32 2#32 [0x02#8, 0xFF#8, 0x01#8] [4#8, 8#8])) =
      some (0#32, [3#8, 9#8], 0x0D#32) ∧
    seen (exec .pngtagAvg03 (predAt .dec 10#32 2#32 [0x03#8, 0x01#8, 0x01#8] [4#8, 8#8])) =
      some (0#32, [3#8, 6#8], 0x0D#32) ∧
    seen (exec .pngtagPaeth04 (predAt .dec 10#32 2#32 [0x04#8, 0xFF#8, 0x01#8] [4#8, 8#8])) =
      some (0#32, [3#8, 9#8], 0x0D#32) := by decide

/-- R230: a tag above 4 faults with the tag. R216: a short row under strict. -/
theorem test_png_bad_short :
    seen (exec .pngtagBad05 (predAt .dec 10#32 2#32 [0x05#8, 0x01#8, 0x01#8] [4#8, 8#8])) =
      some (0x00054005#32, [], 0x10F#32) ∧
    seen (exec .finish { predAt .dec 2#32 4#32 [0x05#8] [] with
      latch := { latchOf State.reset with pred := 2#32, columns := 4#32, strict := true } }) =
      some (0x00004109#32, [], 0x20F#32) := by decide

/-- 95_test_vectors.md 1.4: the TIFF row `0A 0A 0A 0A` decodes to `0A 14 1E 28`. -/
theorem test_tiff :
    seen (exec .push { predAt .dec 2#32 4#32 [] [0#8, 0#8, 0#8, 0#8] with
      inp := [0x0A#8, 0x0A#8, 0x0A#8, 0x0A#8] }) =
      some (0#32, [0x0A#8, 0x14#8, 0x1E#8, 0x28#8], 0x0D#32) := by decide

/-- R219, its examples of 16, 4 and 1 bits: the 4-bit row has a pad nibble, the 1-bit row six pad bits. -/
theorem test_tiff_widths :
    seen (exec .push { tiffAt .enc 16#32 3#32 [] with
      inp := [0x01#8, 0x00#8, 0x00#8, 0xFF#8, 0x02#8, 0x00#8] }) =
      some (0#32, [0x01#8, 0x00#8, 0xFF#8, 0xFF#8, 0x01#8, 0x01#8], 0x2D#32) ∧
    seen (exec .push { tiffAt .enc 4#32 3#32 [] with inp := [0x12#8, 0x3F#8] }) =
      some (0#32, [0x11#8, 0x1F#8], 0x2D#32) ∧
    seen (exec .push { tiffAt .enc 1#32 10#32 [] with inp := [0xB2#8, 0xC0#8] }) =
      some (0#32, [0xEB#8, 0x80#8], 0x2D#32) := by decide

/-- R216 and R217, their examples: a short TIFF row decoded, a short PNG row encoded by Sub. -/
theorem test_truncated_rows :
    seen (exec .finish (predAt .dec 2#32 4#32 [0x05#8, 0x00#8, 0x00#8] [])) =
      some (0#32, [0x05#8, 0x05#8, 0x05#8], 0x0E#32) ∧
    seen (exec .finish (predAt .enc 11#32 4#32 [0x32#8, 0x3C#8, 0x46#8] [0x0A#8, 0x14#8, 0x1E#8, 0x28#8])) =
      some (0#32, [0x01#8, 0x32#8, 0x0A#8, 0x0A#8], 0x2E#32) := by decide

/-- R192 and R193, their example: at `tsize` 511 the code 65 has 9 bits and EOD 10; five pad bits 0. -/
theorem test_lzw_enc_finish :
    seen (exec .finish (at' .lzw .enc (.lzwEnc { lzwEncInit false with tsize := 511, cand := [0x41#8] }))) =
      some (0#32, [0x20#8, 0xA0#8, 0x20#8], 0x2A#32) := by decide

/-- R21: the block's nine offsets, read. -/
theorem test_read_registers :
    ∀ p ∈ [(0x00, 0#32), (0x04, 0x10B#32), (0x08, 0x01020030#32), (0x0C, 0x01023005#32), (0x10, 2#32),
      (0x14, 3#32), (0x18, 4#32), (0x1C, 5#32), (0x20, 0x46#32), (0x24, 0#32)],
      (match readAccess p.1 { State.reset with
          phase := .error, unit := .lzw, errkind := .formatError, errinfo := 0x01020030#32
          rsp := 0x01023005#32, predictor := 2#32, colors := 3#32, bpc := 4#32, columns := 5#32
          ctrl := 0x46#32 } with
        | .next t => t.rdata == p.2
        | _ => false) = true := by decide

/-- R30: the reserved bits of `CTRL` are not written. -/
theorem test_write_ctrl :
    (match step { State.reset with port := [.write 0x20 0xFFFFFFFF#32 []] } with
      | .next t => t.ctrl == 0x77#32 && t.port == []
      | _ => false) = true := by decide

/-- Words of the table run as the first instruction after reset, of every format a bare word has. -/
theorem test_fetch_word_runs :
    seen (step (State.reset.withFetchWord 32 0x91)) = some (0#32, [], 0x25#32) ∧
    seen (step (State.reset.withFetchWord 8 0x7A)) = some (0#32, [0#8, 0#8, 0#8, 0#8], 0x01#32) ∧
    seen (step (State.reset.withFetchWord 8 0x80)) = some (0x00801005#32, [], 0x103#32) ∧
    seen (step (State.reset.withFetchWord 16 0x041)) = some (0#32, [0x41#8], 0x09#32) ∧
    seen (step (State.reset.withFetchWord 16 0x102)) = some (0#32, [0#8, 0#8], 0x09#32) := by decide

/-- The code whose width is 12 bits: the decoder of notes/assumptions/8.md has 1790 recorded strings. -/
theorem test_fetch_word_long_code : goesOn (step (State.reset.withFetchWord 16 0x800)) = true := by
  decide +kernel

/-! ## For each statement with hypotheses, a state and operands that meet them -/

/-- An LZW encoder without recorded strings whose opening CLEAR is written. -/
def encOf (cand : List Byte) : LzwEnc :=
  { tab := [], tsize := 258, width := 9, cand := cand, acc := 0, nbits := 1, lead := false }

/-- An A85 state whose `CHUNK_MAX` is 2. -/
def chunked : State := { a85At [] false with cfg := { chunkMax := some 2, rowMax := none } }

/-- With `CHUNK_MAX` "no limit" every payload fits; the witnesses below with `chunkMax = none` meet
`PayloadFits` by this. -/
theorem payloadFits_of_none {s : State} (h : s.cfg.chunkMax = none) : PayloadFits s :=
  fun m hm => by rw [h] at hm; cases hm

/-- `fin` set. -/
def ended (s : State) : State := { s with fin := true }

theorem witness_DecodeEncodeRoundTrip :
    (Instr.a85chDigit22to23 0x23#8).wf = true ∧ (Instr.lzwcodeRef800toFFF 0xFFF#12).wf = true ∧
    Instr.push.wf = true := by decide

theorem witness_EncodeDecodeRoundTrip :
    decode (.ahxch 0x3E#8) = some .ahxchGt3E ∧ (∀ w, Enc.pngtag 0xFF#8 ≠ .cmd w) :=
  ⟨by decide, fun _ h => nomatch h⟩

theorem witness_StepRunsDecodedInstruction :
    ({ State.reset with port := [.write 0 2#32 [0x7A#8], .reset] } : State).port =
      .write 0 2#32 [0x7A#8] :: [.reset] ∧ decode (.cmd 2#32) = some .push := by decide

theorem witness_IllegalCommandIsRejected :
    ({ State.reset with port := [.write 0 0x41#32 []] } : State).port = .write 0 0x41#32 [] :: [] ∧
    0x41#32 ∉ [0x00#32, 0x01#32, 0x81#32, 0x11#32, 0x91#32, 0x21#32, 0xA1#32, 0x31#32, 0xB1#32, 0x02#32,
      0x03#32, 0x04#32] := by decide

/-- Every clause, at the ends of its range: 0x24 is the first offset above the registers, 0x21 an unaligned one
above `CTRL`. -/
theorem witness_RegisterReads :
    ∀ off ∈ [0x00, 0x04, 0x08, 0x0C, 0x10, 0x14, 0x18, 0x1C, 0x20, 0x24, 0x28, 0x01, 0x21],
      ({ State.reset with port := [.read off] } : State).port = .read off :: [] ∧
      (off % 4 ≠ 0 ∨ off % 4 = 0) := by decide

theorem witness_RegisterWrites :
    ∀ off ∈ [0x01, 0x10, 0x14, 0x18, 0x1C, 0x20, 0x04, 0x08, 0x0C, 0x24],
      ({ State.reset with port := [.write off 5#32 []] } : State).port = .write off 5#32 [] :: [] ∧ off ≠ 0 ∧
      (off % 4 ≠ 0 ∨ off ∈ [0x10, 0x14, 0x18, 0x1C, 0x20] ∨
        off % 4 = 0 ∧ (off = 0x04 ∨ off = 0x08 ∨ off = 0x0C ∨ 0x24 ≤ off)) := by decide

theorem witness_ResetState :
    State.reset.port = [] ∧ ({ chunked with port := [.reset] } : State).port = .reset :: [] := by decide

/-- Reset parameters are legal for every unit and direction. -/
theorem witness_StartCreatesInvocation (unit : CodecUnit) (dir : Direction) :
    ParametersLegal State.reset.cfg unit dir (latchOf .reset) := by
  simp [ParametersLegal, PredictorWorks, latchOf, State.reset]

/-- Both cases of the buffers: with `PREDICTOR` = 15 and a row of exactly `ROW_MAX` bytes the predictor works,
with 1 it does not. -/
theorem witness_StartCreatesInvocation_rows :
    (let s : State := { State.reset with
        predictor := 15#32, columns := 4#32, cfg := { chunkMax := none, rowMax := some 4 } }
     ParametersLegal s.cfg .lzw .enc (latchOf s) ∧ PredictorWorks .lzw (latchOf s)) ∧
    ¬ PredictorWorks .pred (latchOf .reset) := by
  refine ⟨⟨⟨fun _ => by decide, fun _ => ⟨by decide, by decide, by decide, ?_, fun _ => by decide⟩⟩,
    .inr rfl, by decide⟩, by simp [PredictorWorks, latchOf, State.reset]⟩
  intro m h
  cases h
  decide

/-- An illegal `PREDICTOR`, and a row one byte above `ROW_MAX`. -/
theorem witness_StartRefusesIllegalParameters :
    (let s : State := { State.reset with predictor := 3#32 }
     ¬ ParametersLegal s.cfg .lzw .dec (latchOf s)) ∧
    (let s : State := { State.reset with
        predictor := 2#32, columns := 5#32, cfg := { chunkMax := none, rowMax := some 4 } }
     ¬ ParametersLegal s.cfg .pred .enc (latchOf s)) :=
  ⟨fun h => absurd (h.1 (.inl rfl)) (by decide),
    fun h => absurd ((h.2 ⟨.inl rfl, by decide⟩).2.2.2.1 4 rfl) (by decide)⟩

theorem witness_PushAndFinishRejected :
    State.reset.phase ≠ .active ∧ chunked.cfg.chunkMax = some 2 ∧
    2 < ({ chunked with inp := [0#8, 0#8, 0#8] } : State).inp.length := by decide

/-- A payload of exactly `CHUNK_MAX` bytes; both answers occur: `OK`, and a fault. -/
theorem witness_PushCompletes :
    chunked.phase = .active ∧ chunked.codec = some (.a85Dec { dig := [], tilde := false }) ∧
    PayloadFits { chunked with inp := [0x7A#8, 0x7A#8] } ∧
    seen (exec .push { chunked with inp := [0x7A#8, 0x7A#8] }) =
      some (0#32, [0#8, 0#8, 0#8, 0#8, 0#8, 0#8, 0#8, 0#8], 0x01#32) ∧
    seen (exec .push { chunked with inp := [0x7A#8, 0x76#8] }) = some (0x00761005#32, [], 0x103#32) := by
  refine ⟨rfl, rfl, ?_, by decide, by decide⟩
  intro m h
  cases h
  decide

theorem witness_FinishCompletes :
    (at' .ahx .enc .ahxEnc).phase = .active ∧ (at' .ahx .enc .ahxEnc).codec = some .ahxEnc ∧
    seen (exec .finish (at' .ahx .enc .ahxEnc)) = some (0#32, [0x3E#8], 0x26#32) := by decide

/-- Each command, from phase IDLE and from phase ACTIVE, answers a next state. -/
theorem witness_PhaseTransitions :
    ∀ i ∈ [Instr.nop, .abort, .startA85Dec, .startA85Enc, .startAhxDec, .startAhxEnc, .startLzwDec,
      .startLzwEnc, .startPredDec, .startPredEnc, .push, .finish],
      goesOn (exec i .reset) = true ∧ goesOn (exec i (a85At [] false)) = true := by decide

theorem witness_EmptyPush :
    (let s := lzwAt [] none
     s.phase = .active ∧ s.codec = some (.lzwDec (lzwDecWith [] none)) ∧ s.inp = []) ∧
    (let s := at' .lzw .enc (.lzwEnc (lzwEncInit true))
     s.phase = .active ∧ s.codec = some (.lzwEnc (lzwEncInit true)) ∧ s.inp = [] ∧
     (lzwEncInit true).Ok ∧ (lzwEncInit true).lead = true) :=
  ⟨⟨rfl, rfl, rfl⟩, rfl, rfl, rfl,
    ⟨nofun, List.nodup_nil, rfl, by decide, rfl, by decide, by decide, .inl rfl, fun _ => rfl⟩, rfl⟩

theorem witness_InputAfterTerminatorIgnored :
    (let s := ended (a85At [] false)
     s.phase = .active ∧ s.codec = some (.a85Dec { dig := [], tilde := false }) ∧ s.fin = true) ∧
    (let s := ended (ahxAt false 0#4)
     s.phase = .active ∧ s.codec = some (.ahxDec { waiting := false, hi := 0#4 }) ∧ s.fin = true) ∧
    (let s := ended (lzwAt [] none)
     s.phase = .active ∧ s.codec = some (.lzwDec (lzwDecWith [] none)) ∧ s.fin = true) ∧
    encode .a85chZ7A = .a85ch 0x7A#8 ∧ encode .a85chTGt3E = .a85chT 0x3E#8 ∧
    encode .ahxchGt3E = .ahxch 0x3E#8 ∧ encode .lzwcodeEod101 = .lzwcode 0x101#12 := by decide

/-- Two payloads of one invocation, both accepted. -/
theorem witness_PushOfTwoPieces :
    ∃ t u : State, PayloadFits { a85At [] false with inp := [0x7A#8] ++ [0x21#8] } ∧
      (a85At [] false).phase = .active ∧
      exec .push { a85At [] false with inp := [0x7A#8] } = .next t ∧ t.phase = .active ∧
      exec .push { t with inp := [0x21#8] } = .next u :=
  ⟨_, _, payloadFits_of_none rfl, rfl, rfl, rfl, rfl⟩

/-- Three bytes cut in two ways, every payload within a `CHUNK_MAX` of 2. -/
theorem witness_ChunkIndependence :
    [[1#8], [2#8, 3#8]].flatten = [[1#8, 2#8], [3#8]].flatten ∧
    PayloadsFit [[1#8], [2#8, 3#8]] chunked ∧ PayloadsFit [[1#8, 2#8], [3#8]] chunked :=
  ⟨rfl, fun m h => by cases h; decide, fun m h => by cases h; decide⟩

theorem witness_PushByteRunsA85Symbol :
    A85Decoding (a85At [1] false) { dig := [1], tilde := false } ∧
    A85Decoding (a85At [1] true) { dig := [1], tilde := true } := ⟨⟨rfl, rfl, rfl⟩, rfl, rfl, rfl⟩

theorem witness_PushByteRunsAhxSymbol :
    AhxDecoding (ahxAt true 4#4) { waiting := true, hi := 4#4 } := ⟨rfl, rfl, rfl⟩

/-- A byte that completes no code, and one that does. -/
theorem witness_PushByteRunsLzwCode :
    LzwDecoding (lzwAt [] none) (lzwDecWith [] none) ∧
    readCode 0x20#8 (lzwDecWith [] none) = (none, { lzwDecWith [] none with acc := 0x20, nbits := 8 }) ∧
    readCode 0xC0#8 { lzwDecWith [] none with acc := 0x20, nbits := 8 } =
      (some 0x41#12, { lzwDecWith [] none with acc := 0x40, nbits := 7 }) :=
  ⟨⟨rfl, rfl, rfl⟩, by decide, by decide⟩

/-- A unit of tag and one byte whose second byte completes it, `L_STRICT` 0. -/
theorem witness_UnitRunsPngTag :
    let s := predAt .dec 11#32 2#32 [0x01#8, 0x0A#8] [0#8, 0#8]
    PngDecoding s 0x01#8 [0x0A#8] [0#8, 0#8] ∧
    (0x01#8 :: [0x0A#8] ++ [0x05#8] : List Byte).length =
      (s.latch.columns.toNat * s.latch.colors.toNat * s.latch.bpc.toNat + 7) / 8 + 1 ∧ s.latch.strict = false :=
  ⟨⟨rfl, rfl, by decide, rfl⟩, by decide, rfl⟩

theorem witness_SymbolsStopOutsideInvocation :
    State.reset.phase ≠ .active ∧ ∀ w, encode .lzwcodeEod101 ≠ .cmd w :=
  ⟨by decide, fun _ h => nomatch h⟩

theorem witness_WhitespaceSkipped :
    (Instr.a85chWs0Cto0D 0x0D#8).wf = true ∧
    0x0D#8 ∈ [0x00#8, 0x09#8, 0x0A#8, 0x0C#8, 0x0D#8, 0x20#8] ∧
    encode (.a85chWs0Cto0D 0x0D#8) = .a85ch 0x0D#8 ∧ encode .a85chTWs20 = .a85chT 0x20#8 ∧
    encode .ahxchWs00 = .ahxch 0x00#8 := by decide

theorem witness_A85ZeroGroup :
    A85Decoding (a85At [] false) { dig := [], tilde := false } ∧
    A85Decoding (a85At [84] false) { dig := [84], tilde := false } := ⟨⟨rfl, rfl, rfl⟩, rfl, rfl, rfl⟩

/-- A digit that joins a group of three, one that completes `s8W-!` (the largest value, `2^32 - 1`), and one
that exceeds it. -/
theorem witness_A85DigitGroup :
    A85Decoding (a85At [82, 23, 54] false) { dig := [82, 23, 54], tilde := false } ∧
    A85Decoding (a85At [82, 23, 54, 12] false) { dig := [82, 23, 54, 12], tilde := false } ∧
    Instr.a85chDigit21.wf = true ∧ encode .a85chDigit21 = .a85ch 0x21#8 ∧
    82 * 85 ^ 4 + 23 * 85 ^ 3 + 54 * 85 ^ 2 + 12 * 85 + ((0x21#8 : Byte).toNat - 33) = 2 ^ 32 - 1 ∧
    (Instr.a85chDigit22to23 0x22#8).wf = true ∧
    2 ^ 32 - 1 < 82 * 85 ^ 4 + 23 * 85 ^ 3 + 54 * 85 ^ 2 + 12 * 85 + ((0x22#8 : Byte).toNat - 33) :=
  ⟨⟨rfl, rfl, rfl⟩, ⟨rfl, rfl, rfl⟩, by decide⟩

theorem witness_A85TildeAndBadTerminator :
    A85Decoding (a85At [5] false) { dig := [5], tilde := false } ∧
    A85Decoding (a85At [5] true) { dig := [5], tilde := true } ∧
    (Instr.a85chTBad3Cto3D 0x3D#8).wf = true ∧
    0x3D#8 ∉ [0x00#8, 0x09#8, 0x0A#8, 0x0C#8, 0x0D#8, 0x20#8, 0x3E#8] :=
  ⟨⟨rfl, rfl, rfl⟩, ⟨rfl, rfl, rfl⟩, by decide⟩

/-- No digit; three digits (`s8W`, which pads above `2^32 - 1`); four digits at the boundary. -/
theorem witness_A85TerminatorEndsStream :
    A85Decoding (a85At [] true) { dig := [], tilde := true } ∧
    A85Decoding (a85At [82, 23, 54] true) { dig := [82, 23, 54], tilde := true } ∧
    ([82, 23, 54, 84, 84] : List Nat) = [82, 23, 54] ++ List.replicate (5 - 3) 84 ∧
    2 ^ 32 - 1 < 82 * 85 ^ 4 + 23 * 85 ^ 3 + 54 * 85 ^ 2 + 84 * 85 + 84 ∧
    A85Decoding (a85At [82, 23, 54, 11] true) { dig := [82, 23, 54, 11], tilde := true } ∧
    82 * 85 ^ 4 + 23 * 85 ^ 3 + 54 * 85 ^ 2 + 11 * 85 + 84 ≤ 2 ^ 32 - 1 :=
  ⟨⟨rfl, rfl, rfl⟩, ⟨rfl, rfl, rfl⟩, rfl, by decide, ⟨rfl, rfl, rfl⟩, by decide⟩

theorem witness_BadCharactersFault :
    (Instr.a85chBad76to77 0x76#8).wf = true ∧ encode (.a85chBad76to77 0x76#8) = .a85ch 0x76#8 ∧
    0x76#8 ∉ [0x00#8, 0x09#8, 0x0A#8, 0x0C#8, 0x0D#8, 0x20#8] ∧
    ¬ (0x21 ≤ (0x76#8 : Byte).toNat ∧ (0x76#8 : Byte).toNat ≤ 0x75) ∧
    Instr.ahxchBad40.wf = true ∧ encode .ahxchBad40 = .ahxch 0x40#8 ∧
    ¬ (0x41 ≤ (0x40#8 : Byte).toNat ∧ (0x40#8 : Byte).toNat ≤ 0x46) := by decide

/-- A group left short, a group of four zero bytes, a group that is not. -/
theorem witness_A85EncodeGroup :
    (∀ ebuf ∈ [([0#8, 0#8] : List Byte), [0#8, 0#8, 0#8], [0x4D#8, 0x61#8, 0x6E#8]],
      (at' .a85 .enc (.a85Enc ebuf)).phase = .active ∧
      (at' .a85 .enc (.a85Enc ebuf)).codec = some (.a85Enc ebuf)) ∧
    State.reset.cfg.chunkMax = none := by decide

/-- No byte, one byte and three bytes waiting. -/
theorem witness_TextEncodersFinish :
    (∀ ebuf ∈ [([] : List Byte), [0xFF#8], [0x4D#8, 0x61#8, 0x6E#8]],
      (at' .a85 .enc (.a85Enc ebuf)).codec = some (.a85Enc ebuf) ∧ ebuf.length ≤ 3) ∧
    ([0xFF#8, 0#8, 0#8, 0#8] : List Byte) = [0xFF#8] ++ List.replicate (4 - 1) 0#8 ∧
    (at' .ahx .enc .ahxEnc).codec = some .ahxEnc := by decide

theorem witness_DecodersDemandTerminator :
    A85Decoding (a85At [1] true) { dig := [1], tilde := true } ∧
    AhxDecoding (ahxAt true 9#4) { waiting := true, hi := 9#4 } ∧
    LzwDecoding (lzwAt [] none) (lzwDecWith [] none) ∧
    (ended (lzwAt [] none)).fin = true ∧ (ended (lzwAt [] none)).chain = false :=
  ⟨⟨rfl, rfl, rfl⟩, ⟨rfl, rfl, rfl⟩, ⟨rfl, rfl, rfl⟩, rfl, rfl⟩

/-- `Codes` speaks of some cutting: the whole of `b` as one payload, or in pieces. -/
theorem witness_A85RoundTrip :
    [[0x4D#8, 0x61#8]].flatten = [0x4D#8, 0x61#8] ∧ PayloadsFit [[0x4D#8, 0x61#8]] chunked :=
  ⟨rfl, fun m h => by cases h; decide⟩

/-- A digit of each of the three ranges, at an end of it. -/
theorem witness_AhxDigitPairs :
    AhxDecoding (ahxAt false 0#4) { waiting := false, hi := 0#4 } ∧
    AhxDecoding (ahxAt true 4#4) { waiting := true, hi := 4#4 } ∧
    (Instr.ahxchHex38to39 0x39#8).wf = true ∧ encode (.ahxchHex38to39 0x39#8) = .ahxch 0x39#8 ∧
    encode .ahxchHex46 = .ahxch 0x46#8 ∧ encode .ahxchHex61 = .ahxch 0x61#8 ∧
    (0x39#8 : Byte).toNat = 0x39 ∧ (0x46#8 : Byte).toNat = 0x46 ∧ (0x61#8 : Byte).toNat = 0x61 :=
  ⟨⟨rfl, rfl, rfl⟩, ⟨rfl, rfl, rfl⟩, by decide⟩

theorem witness_AhxTerminator :
    AhxDecoding (ahxAt false 0#4) { waiting := false, hi := 0#4 } ∧
    AhxDecoding (ahxAt true 7#4) { waiting := true, hi := 7#4 } := ⟨⟨rfl, rfl, rfl⟩, rfl, rfl, rfl⟩

theorem witness_AhxEncodePush :
    (at' .ahx .enc .ahxEnc).phase = .active ∧ (at' .ahx .enc .ahxEnc).codec = some .ahxEnc ∧
    (at' .ahx .enc .ahxEnc).cfg.chunkMax = none := by decide

theorem witness_AhxRoundTrip :
    [[0x90#8], [0x1F#8]].flatten = [0x90#8, 0x1F#8] ∧ PayloadsFit [[0x90#8], [0x1F#8]] chunked :=
  ⟨rfl, fun m h => by cases h; decide⟩

theorem witness_LzwClearAndEod :
    LzwDecoding (lzwAt [[0x41#8, 0x42#8]] (some 0x42#12)) (lzwDecWith [[0x41#8, 0x42#8]] (some 0x42#12)) ∧
    (lzwDecWith [[0x41#8, 0x42#8]] (some 0x42#12)).tsize ≠ 4095 := ⟨⟨rfl, rfl, rfl⟩, by decide⟩

/-- A literal at the top of its range and the first code of a recorded string. -/
theorem witness_LzwFirstCode :
    LzwDecoding (lzwAt [] none) (lzwDecWith [] none) ∧ (lzwDecWith [] none).tsize ≠ 4095 ∧
    (lzwDecWith [] none).last = none ∧
    (Instr.lzwcodeLit000to0FF 0x0FF#12).wf = true ∧
    encode (.lzwcodeLit000to0FF 0x0FF#12) = .lzwcode 0x0FF#12 ∧
    (Instr.lzwcodeRef102to103 0x102#12).wf = true ∧
    encode (.lzwcodeRef102to103 0x102#12) = .lzwcode 0x102#12 :=
  ⟨⟨rfl, rfl, rfl⟩, by decide⟩

/-- The codes `tsize - 1`, `tsize` and `tsize + 1` after `41 42`. -/
theorem witness_LzwNormalCode :
    let d := lzwDecWith [[0x41#8, 0x42#8]] (some 0x42#12)
    LzwDecoding (lzwAt [[0x41#8, 0x42#8]] (some 0x42#12)) d ∧ d.tsize ≤ 4094 ∧ d.last = some 0x42#12 ∧
    tabString d.tab (0x42#12 : Code).toNat = 0x42#8 :: [] ∧
    (0x102#12 : Code).toNat < d.tsize ∧ tabString d.tab (0x102#12 : Code).toNat = 0x41#8 :: [0x42#8] ∧
    (0x103#12 : Code).toNat = d.tsize ∧ d.tsize < (0x104#12 : Code).toNat ∧
    (Instr.lzwcodeRef102to103 0x103#12).wf = true ∧ (Instr.lzwcodeRef104to107 0x104#12).wf = true :=
  ⟨⟨rfl, rfl, rfl⟩, by decide⟩

theorem witness_LzwTableFullFaults :
    LzwDecoding (at' .lzw .dec (.lzwDec fullDec)) fullDec ∧ fullDec.tsize = 4095 ∧
    Instr.lzwcodeEod101.wf = true ∧ encode .lzwcodeEod101 = .lzwcode 0x101#12 ∧ 0x101#12 ≠ 256#12 ∧
    encode .lzwcodeClear100 = .lzwcode 256#12 :=
  ⟨⟨rfl, rfl, rfl⟩, rfl, by decide⟩

/-- The encoder at 7 bits held and the widest code; the decoder one bit short of a code, and with a code. -/
theorem witness_CodesPackMsbFirst :
    (let e : LzwEnc := { encOf [] with width := 12, nbits := 7, acc := 127 }
     e.nbits ≤ 7 ∧ e.acc < 2 ^ e.nbits ∧ 4095 < 2 ^ e.width) ∧
    (let d : LzwDec := { lzwDecWith [] none with nbits := 0 }
     9 ≤ d.width ∧ d.width ≤ 12 ∧ d.nbits < d.width ∧ d.acc < 2 ^ d.nbits ∧ d.nbits + 8 < d.width) ∧
    (let d : LzwDec := { lzwDecWith [] none with nbits := 1, acc := 1 }
     9 ≤ d.width ∧ d.width ≤ 12 ∧ d.nbits < d.width ∧ d.acc < 2 ^ d.nbits ∧ d.width ≤ d.nbits + 8) := by decide

theorem encOf_ok (b : Byte) : (encOf [b]).Ok :=
  ⟨nofun, List.nodup_nil, rfl, by simp [encOf], by simp [encOf, widthEnc], by simp [encOf], by simp [encOf],
    .inr rfl, nofun⟩

/-- A byte that extends nothing and is recorded, and one that opens the candidate. -/
theorem witness_LzwEncodeByte :
    (let s := { at' .lzw .enc (.lzwEnc (encOf [0x41#8])) with inp := [0x42#8] }
     s.phase = .active ∧ s.codec = some (.lzwEnc (encOf [0x41#8])) ∧ (encOf [0x41#8]).Ok ∧
     (encOf [0x41#8]).lead = false ∧ s.chain = false ∧ PayloadFits s ∧
     ([0x41#8] ++ [0x42#8] : List Byte).length ≠ 1 ∧ ([0x41#8] ++ [0x42#8] : List Byte) ∉ (encOf [0x41#8]).tab ∧
     (encOf [0x41#8]).tsize + 1 ≠ 4096) ∧
    (encOf []).Ok ∧ ((encOf []).cand ++ [0x42#8]).length = 1 :=
  ⟨⟨rfl, rfl, encOf_ok _, rfl, rfl, payloadFits_of_none rfl, by decide, by decide, by decide⟩,
    ⟨nofun, List.nodup_nil, rfl, by decide, rfl, by decide, by decide, .inl rfl, nofun⟩, rfl⟩

/-- 3837 strings of two bytes, no two alike. -/
def manyStrings : List (List Byte) :=
  (List.range 3837).map fun k => [BitVec.ofNat 8 (k / 256), BitVec.ofNat 8 k]

theorem manyStrings_nodup : manyStrings.Nodup := by
  refine List.Nodup.map_on (fun j hj k hk h => ?_) List.nodup_range
  have hj' := List.mem_range.1 hj
  have hk' := List.mem_range.1 hk
  simp only [List.cons.injEq, and_true] at h
  have h1 := congrArg BitVec.toNat h.1
  have h2 := congrArg BitVec.toNat h.2
  simp only [BitVec.toNat_ofNat] at h1 h2
  omega

theorem manyStrings_two : ∀ s ∈ manyStrings, 2 ≤ s.length := by
  intro s hs
  obtain ⟨k, -, rfl⟩ := List.mem_map.1 hs
  exact le_rfl

theorem manyStrings_length : manyStrings.length = 3837 := by
  rw [manyStrings, List.length_map, List.length_range]

/-- An encoder with the strings given, `tsize` 4095, the candidate `41`. -/
def encWith (tab : List (List Byte)) : LzwEnc :=
  { tab := tab, tsize := 4095, width := 12, cand := [0x41#8], acc := 0, nbits := 0, lead := false }

theorem encWith_ok {tab : List (List Byte)} (h2 : ∀ s ∈ tab, 2 ≤ s.length) (hn : tab.Nodup)
    (hl : tab.length = 3837) : (encWith tab).Ok :=
  ⟨h2, hn, by simp [encWith, hl], by simp [encWith], by simp [encWith, widthEnc], by simp [encWith],
    by simp [encWith], .inr rfl, nofun⟩

theorem witness_LzwEncodeFinish_full :
    let e := encWith manyStrings
    e.Ok ∧ e.lead = false ∧ e.cand ≠ [] ∧ codeMapped e.tab 0x41 ∧ tabString e.tab 0x41 = e.cand ∧
      e.tsize + 1 = 4096 :=
  ⟨encWith_ok manyStrings_two manyStrings_nodup manyStrings_length, rfl, nofun, .inl (by decide),
    tabString_literal _ _ (by decide), rfl⟩

/-- The opening CLEAR owed; no candidate; a candidate at table size 258; a chained encode on a row boundary. -/
theorem witness_LzwEncodeFinish :
    (at' .lzw .enc (.lzwEnc (encOf []))).phase = .active ∧ (at' .lzw .enc (.lzwEnc (encOf []))).chain = false ∧
    ((lzwEncInit true).Ok ∧ (lzwEncInit true).lead = true) ∧
    ((encOf []).Ok ∧ (encOf []).lead = false ∧ (encOf []).cand = []) ∧
    ((encOf [0x41#8]).Ok ∧ (encOf [0x41#8]).lead = false ∧ (encOf [0x41#8]).cand ≠ [] ∧
      codeMapped (encOf [0x41#8]).tab 0x41 ∧ tabString (encOf [0x41#8]).tab 0x41 = (encOf [0x41#8]).cand ∧
      (encOf [0x41#8]).tsize + 1 ≠ 4096) ∧
    (let s := { at' .lzw .enc (.lzwEnc (encOf [])) with chain := true, rows := some { cur := [], prev := [0#8] } }
     s.phase = .active ∧ s.codec = some (.lzwEnc (encOf [])) ∧
     ∃ prev, s.rows = some { cur := [], prev := prev }) :=
  ⟨rfl, rfl,
    ⟨⟨nofun, List.nodup_nil, rfl, by decide, rfl, by decide, by decide, .inl rfl, fun _ => rfl⟩, rfl⟩,
    ⟨⟨nofun, List.nodup_nil, rfl, by decide, rfl, by decide, by decide, .inl rfl, nofun⟩, rfl, rfl⟩,
    ⟨encOf_ok _, rfl, nofun, .inl (by decide), rfl, by decide⟩,
    rfl, rfl, _, rfl⟩

theorem witness_LzwRoundTrip :
    State.reset.predictor = 1#32 ∧ [[0x41#8], [0x41#8]].flatten = [0x41#8, 0x41#8] ∧
    PayloadsFit [[0x41#8], [0x41#8]] chunked := ⟨rfl, rfl, fun m h => by cases h; decide⟩

/-- A whole row and a short one. -/
theorem witness_PngRowsReconstructed :
    PngDecoding (predAt .dec 11#32 2#32 [0x01#8, 0x0A#8, 0x0A#8] [0#8, 0#8]) 0x01#8 [0x0A#8, 0x0A#8] [0#8, 0#8] ∧
    PngDecoding (predAt .dec 11#32 2#32 [0x04#8, 0x0A#8] [0#8, 0#8]) 0x04#8 [0x0A#8] [0#8, 0#8] ∧
    encode .pngtagSub01 = .pngtag 0x01#8 ∧ encode .pngtagPaeth04 = .pngtag 0x04#8 ∧
    1 ≤ (predAt .dec 11#32 2#32 [] []).latch.colors.toNat ∧ 1 ≤ (predAt .dec 11#32 2#32 [] []).latch.bpc.toNat :=
  ⟨⟨rfl, rfl, by decide, rfl⟩, ⟨rfl, rfl, by decide, rfl⟩, rfl, rfl, by decide⟩

theorem witness_PngBadTagFaults :
    PngDecoding (predAt .dec 15#32 2#32 [0x05#8] [0#8, 0#8]) 0x05#8 [] [0#8, 0#8] ∧
    Instr.pngtagBad05.wf = true ∧ encode .pngtagBad05 = .pngtag 0x05#8 ∧ 5 ≤ (0x05#8 : Byte).toNat :=
  ⟨⟨rfl, rfl, by decide, rfl⟩, by decide⟩

/-- `L_PRED` 10, 14 and 15 (`L_OPTTAG` 4 after reset): the tags 0, 4 and 4. -/
theorem witness_PngRowsFiltered :
    ∀ p ∈ [(10#32, 0, PngFilter.none), (14#32, 4, .paeth), (15#32, 4, .paeth)],
      let s := { predAt .enc p.1 2#32 [0x07#8] [0#8, 0#8] with inp := [0x09#8] }
      s.phase = .active ∧ s.codec = some .pred ∧ s.dir = .enc ∧ s.chain = false ∧ s.cfg.chunkMax = none ∧
      10 ≤ s.latch.pred.toNat ∧ s.latch.pred.toNat ≤ 15 ∧
      (s.latch.pred.toNat ≤ 14 → p.2.1 = s.latch.pred.toNat - 10) ∧
      (s.latch.pred.toNat = 15 → p.2.1 = s.latch.opttag.toNat) ∧
      p.2 ∈ [(0, PngFilter.none), (1, .sub), (2, .up), (3, .average), (4, .paeth)] ∧
      s.rows = some { cur := [0x07#8], prev := [0#8, 0#8] } ∧ s.inp = [0x09#8] ∧
      ([0x07#8] : List Byte).length + 1 =
        (s.latch.columns.toNat * s.latch.colors.toNat * s.latch.bpc.toNat + 7) / 8 := by decide

/-- Both directions, with components of 8 bits and of 1, 4 and 16. -/
theorem witness_TiffRowsOfBytes :
    ∀ dir ∈ [Direction.dec, .enc],
      ∀ p ∈ [(8, 2), (1, 10), (4, 3), (16, 1)],
        let s := { tiffAt dir (BitVec.ofNat 32 p.1) (BitVec.ofNat 32 p.2) [0x07#8] with inp := [0x09#8] }
        s.phase = .active ∧ s.codec = some .pred ∧ s.chain = false ∧ s.cfg.chunkMax = none ∧
        s.latch.pred = 2#32 ∧ s.latch.bpc.toNat = p.1 ∧ 1 ≤ s.latch.colors.toNat ∧
        s.rows = some { cur := [0x07#8], prev := [] } ∧ s.inp = [0x09#8] ∧
        ([0x07#8] : List Byte).length + 1 =
          (s.latch.columns.toNat * s.latch.colors.toNat * s.latch.bpc.toNat + 7) / 8 := by decide

/-- No buffers; a byte that joins `CUR`; FINISH on a boundary; FINISH on a short row under strict. -/
theorem witness_PredictorBuffersRows :
    ((at' .pred .enc .pred).phase = .active ∧ (at' .pred .enc .pred).codec = some .pred ∧
      (at' .pred .enc .pred).rows = none ∧ (at' .pred .enc .pred).cfg.chunkMax = none) ∧
    (let s := predAt .dec 12#32 2#32 [0x02#8] [0#8, 0#8]
     s.rows = some { cur := [0x02#8], prev := [0#8, 0#8] } ∧ 10 ≤ s.latch.pred.toNat ∧ s.dir = .dec ∧
     ([0x02#8] : List Byte).length + 1 ≠
       (s.latch.columns.toNat * s.latch.colors.toNat * s.latch.bpc.toNat + 7) / 8 + 1) ∧
    (predAt .dec 12#32 2#32 [] [0#8, 0#8]).rows = some { cur := [], prev := [0#8, 0#8] } ∧
    (let s : State := { predAt .dec 2#32 2#32 [0x02#8] [0#8, 0#8] with
        latch := { latchOf State.reset with pred := 2#32, strict := true } }
     s.rows = some { cur := 0x02#8 :: [], prev := [0#8, 0#8] } ∧ s.latch.strict = true) := by decide

/-- A short final row under lenient: a TIFF row; a PNG encode with `L_PRED` 10, 14 and 15; a PNG decode of the
tags 0, 4 and 5, the last legal one between. -/
theorem witness_PredictorBuffersRows_lenient :
    (let s := tiffAt .enc 4#32 5#32 [0x02#8]
     s.rows = some { cur := 0x02#8 :: [], prev := [] } ∧ s.latch.strict = false ∧ s.latch.pred = 2#32 ∧
     1 ≤ s.latch.colors.toNat ∧ 1 ≤ s.latch.bpc.toNat) ∧
    (∀ p ∈ [(10#32, 0, PngFilter.none), (14#32, 4, .paeth), (15#32, 4, .paeth)],
      let s := predAt .enc p.1 3#32 [0x07#8] [0#8, 0#8, 0#8]
      s.latch.strict = false ∧ s.dir = .enc ∧ 10 ≤ s.latch.pred.toNat ∧ s.latch.pred.toNat ≤ 15 ∧
      (s.latch.pred.toNat ≤ 14 → p.2.1 = s.latch.pred.toNat - 10) ∧
      (s.latch.pred.toNat = 15 → p.2.1 = s.latch.opttag.toNat) ∧
      p.2 ∈ [(0, PngFilter.none), (1, .sub), (2, .up), (3, .average), (4, .paeth)]) ∧
    (∀ x ∈ [0#8, 4#8, 5#8],
      let s := predAt .dec 10#32 3#32 (x :: [0x07#8]) [0#8, 0#8, 0#8]
      s.rows = some { cur := x :: [0x07#8], prev := [0#8, 0#8, 0#8] } ∧ s.latch.strict = false ∧ s.dir = .dec ∧
      10 ≤ s.latch.pred.toNat ∧
      ((x, PngFilter.none) ∈ [(0#8, PngFilter.none), (1#8, .sub), (2#8, .up), (3#8, .average), (4#8, .paeth)] ∨
        (x, PngFilter.paeth) ∈ [(0#8, PngFilter.none), (1#8, .sub), (2#8, .up), (3#8, .average), (4#8, .paeth)] ∨
        5 ≤ x.toNat)) := by decide

/-- Lenient with any length, and strict with two whole rows of three bytes. -/
theorem witness_PredRoundTrip :
    (let s : State := { State.reset with predictor := 15#32, columns := 3#32 }
     ParametersLegal s.cfg .pred .enc (latchOf s) ∧ ctrlStrict s.ctrl = false ∧ 10 ≤ s.predictor.toNat) ∧
    (let s : State := { State.reset with predictor := 2#32, columns := 3#32, ctrl := 0x45#32 }
     ParametersLegal s.cfg .pred .enc (latchOf s) ∧ ctrlStrict s.ctrl = true ∧
     (s.columns.toNat * s.colors.toNat * s.bpc.toNat + 7) / 8 ∣ [1#8, 2#8, 3#8, 4#8, 5#8, 6#8].length ∧ s.predictor.toNat ≤ 2) :=
  ⟨⟨⟨fun _ => by decide, fun _ => ⟨by decide, by decide, by decide, nofun, fun _ => by decide⟩⟩,
      by decide, by decide⟩,
    ⟨fun _ => by decide, fun _ => ⟨by decide, by decide, by decide, nofun, fun h => absurd h.2 (by decide)⟩⟩,
    by decide, by decide, by decide⟩

theorem witness_ChainEqualsTwoUnits : State.reset.cfg.chunkMax = none := rfl

theorem witness_ParameterWritesDoNotReachInvocation :
    (at' .ahx .enc .ahxEnc).phase = .active ∧
    (∃ t, exec .push (at' .ahx .enc .ahxEnc) = .next t) ∧
    (∃ t, exec .finish (at' .ahx .enc .ahxEnc) = .next t) := ⟨rfl, ⟨_, rfl⟩, _, rfl⟩

/-- Every kind of encoder, and a PRED encode that ends in a short row under strict. -/
theorem witness_EncodersNeverFault :
    (∀ p ∈ [(CodecUnit.a85, Codec.a85Enc [0#8]), (.ahx, .ahxEnc), (.lzw, .lzwEnc (encOf [0#8])), (.pred, .pred)],
      (at' p.1 .enc p.2).phase = .active ∧ (at' p.1 .enc p.2).dir = .enc ∧
      goesOn (exec .push { at' p.1 .enc p.2 with inp := [0#8] }) = true ∧
      goesOn (exec .finish (at' p.1 .enc p.2)) = true) ∧
    seen (exec .finish { predAt .enc 2#32 2#32 [0x02#8] [0#8, 0#8] with
      latch := { latchOf State.reset with pred := 2#32, columns := 2#32, strict := true } }) =
      some (0x00004109#32, [], 0x22F#32) := by decide

theorem inv_a85At : Inv (a85At [1] false) where
  ctrl_reserved := by decide
  codec_active := ⟨fun _ => nofun, fun _ => rfl⟩
  rows_active := nofun
  errkind_error := ⟨nofun, fun h => absurd rfl h⟩
  errinfo_clear := fun _ => rfl
  errinfo_cause := nofun
  idle_clear := nofun
  fin_decoder := nofun
  chain_lzw := nofun
  codec_ok := fun _ h => by cases h; exact ⟨rfl, rfl, by decide, by simp, nofun⟩
  latch_ok := fun _ => by decide
  rows_ok := fun _ => ⟨rfl, nofun⟩

theorem inv_faulted : Inv (faultEntry .a85BadChar 0x076#12 (a85At [1] false)) where
  ctrl_reserved := by decide
  codec_active := ⟨nofun, fun h => absurd rfl h⟩
  rows_active := fun _ => rfl
  errkind_error := ⟨fun _ => nofun, fun _ => rfl⟩
  errinfo_clear := fun h => absurd rfl h
  errinfo_cause := fun _ => ⟨.a85BadChar, 0x076#12, nofun, rfl, rfl⟩
  idle_clear := nofun
  fin_decoder := nofun
  chain_lzw := nofun
  codec_ok := nofun
  latch_ok := nofun
  rows_ok := nofun

/-- The premise holds of a state in phase ACTIVE and of one in phase ERROR; the step it takes is a PUSH. -/
theorem witness_StepKeepsInvariant :
    Inv (a85At [1] false) ∧ Inv (faultEntry .a85BadChar 0x076#12 (a85At [1] false)) ∧
    goesOn (step { a85At [1] false with port := [pushOp [0x22#8]] }) = true :=
  ⟨inv_a85At, inv_faulted, by decide⟩

end Sys2Proof.Tests
end

section
/-! # Two cuttings of the same input (R66)

An invocation over any cutting does what one transaction over the whole input does, `wholeInput`. Two facts carry
the proof: a rule of a transaction does not read the payload presented or the output emitted before it, and the
opening CLEAR is written once, in whichever transaction comes first. -/

namespace Sys2Proof.Machine

/-! ## Rules do not read the output emitted before them -/

/-- `s` with another payload presented, and with `sent` emitted earlier in the same transaction; a fault has dropped
what was emitted (R268), so outside phase ACTIVE the output stands. -/
def afterOutput (inp sent : List Byte) (s : State) : State :=
  { s with inp := inp, out := if s.phase = .active then sent ++ s.out else s.out }

section
variable (inp sent : List Byte) (s : State)

@[simp] theorem afterOutput_phase : (afterOutput inp sent s).phase = s.phase := rfl
@[simp] theorem afterOutput_codec : (afterOutput inp sent s).codec = s.codec := rfl
@[simp] theorem afterOutput_rows : (afterOutput inp sent s).rows = s.rows := rfl
@[simp] theorem afterOutput_latch : (afterOutput inp sent s).latch = s.latch := rfl
@[simp] theorem afterOutput_chain : (afterOutput inp sent s).chain = s.chain := rfl
@[simp] theorem afterOutput_dir : (afterOutput inp sent s).dir = s.dir := rfl
@[simp] theorem afterOutput_fin : (afterOutput inp sent s).fin = s.fin := rfl
@[simp] theorem afterOutput_rsp : (afterOutput inp sent s).rsp = s.rsp := rfl

theorem afterOutput_out_active {s : State} (h : s.phase = .active) :
    (afterOutput inp sent s).out = sent ++ s.out := if_pos h

theorem afterOutput_nil : afterOutput inp [] s = { s with inp := inp } := by
  simp [afterOutput]

@[simp] theorem faultEntry_afterOutput (cause : Cause) (sym : Code) :
    faultEntry cause sym (afterOutput inp sent s) = afterOutput inp sent (faultEntry cause sym s) := rfl

@[simp] theorem emitOut_afterOutput (bytes : List Byte) :
    emitOut bytes (afterOutput inp sent s) = afterOutput inp sent (emitOut bytes s) := by
  by_cases h : s.phase = .active <;> simp [emitOut, afterOutput, h]

@[simp] theorem applyAnswer_afterOutput {σ : Type} (wrap : σ → Codec) (a : Answer σ) :
    applyAnswer wrap a (afterOutput inp sent s) = afterOutput inp sent (applyAnswer wrap a s) := by
  cases a with
  | raise cause sym => rfl
  | emit st bytes term =>
    exact emitOut_afterOutput inp sent { s with codec := some (wrap st), fin := s.fin || term } bytes

@[simp] theorem lzwEncFeed_afterOutput (b : Byte) :
    lzwEncFeed b (afterOutput inp sent s) = afterOutput inp sent (lzwEncFeed b s) := by
  unfold lzwEncFeed
  simp only [afterOutput_codec]
  split
  · exact emitOut_afterOutput inp sent { s with codec := _ } _
  · rfl

@[simp] theorem foldl_lzwEncFeed_afterOutput (bytes : List Byte) :
    bytes.foldl (fun t b => lzwEncFeed b t) (afterOutput inp sent s) =
      afterOutput inp sent (bytes.foldl (fun t b => lzwEncFeed b t) s) := by
  induction bytes generalizing s with
  | nil => rfl
  | cons b bs ih => simp only [List.foldl_cons, lzwEncFeed_afterOutput, ih]

@[simp] theorem predSink_afterOutput (bytes : List Byte) :
    predSink bytes (afterOutput inp sent s) = afterOutput inp sent (predSink bytes s) := by
  simp only [predSink, afterOutput_chain, afterOutput_dir, foldl_lzwEncFeed_afterOutput, emitOut_afterOutput]
  split <;> rfl

@[simp] theorem rowAnswer_afterOutput (a : Answer (List Byte)) :
    rowAnswer a (afterOutput inp sent s) = afterOutput inp sent (rowAnswer a s) := by
  cases a with
  | raise cause sym => rfl
  | emit prev bytes term =>
    exact predSink_afterOutput inp sent { s with rows := some { cur := [], prev := prev } } bytes

@[simp] theorem predByte_afterOutput (x : Byte) :
    predByte x (afterOutput inp sent s) = afterOutput inp sent (predByte x s) := by
  unfold predByte
  simp only [afterOutput_rows, afterOutput_latch, afterOutput_dir, predSink_afterOutput, rowAnswer_afterOutput]
  split
  · rfl
  · split <;> rfl

@[simp] theorem predFeed_afterOutput (bytes : List Byte) :
    predFeed bytes (afterOutput inp sent s) = afterOutput inp sent (predFeed bytes s) := by
  induction bytes generalizing s with
  | nil => rfl
  | cons x xs ih =>
    simp only [predFeed, afterOutput_phase, predByte_afterOutput, ih]
    split <;> rfl

@[simp] theorem predFinish_afterOutput :
    predFinish (afterOutput inp sent s) = afterOutput inp sent (predFinish s) := by
  unfold predFinish
  simp only [afterOutput_rows, afterOutput_latch, afterOutput_dir, faultEntry_afterOutput, rowAnswer_afterOutput]
  split
  · rfl
  · split
    · rfl
    · split <;> rfl

@[simp] theorem lzwDecSink_afterOutput (bytes : List Byte) :
    lzwDecSink bytes (afterOutput inp sent s) = afterOutput inp sent (lzwDecSink bytes s) := by
  simp only [lzwDecSink, afterOutput_chain, predFeed_afterOutput, emitOut_afterOutput]
  split <;> rfl

@[simp] theorem lzwAnswer_afterOutput (a : Answer LzwDec) :
    lzwAnswer a (afterOutput inp sent s) = afterOutput inp sent (lzwAnswer a s) := by
  cases a with
  | raise cause sym => rfl
  | emit d bytes term =>
    exact lzwDecSink_afterOutput inp sent { s with codec := some (.lzwDec d), fin := s.fin || term } bytes

@[simp] theorem lzwDecByte_afterOutput (b : Byte) (d : LzwDec) :
    lzwDecByte b d (afterOutput inp sent s) = afterOutput inp sent (lzwDecByte b d s) := by
  unfold lzwDecByte
  split
  · rfl
  · exact lzwAnswer_afterOutput inp sent s _

@[simp] theorem byteStep_afterOutput (b : Byte) :
    byteStep b (afterOutput inp sent s) = afterOutput inp sent (byteStep b s) := by
  unfold byteStep
  simp only [afterOutput_codec, afterOutput_fin, afterOutput_chain, applyAnswer_afterOutput,
    lzwDecByte_afterOutput, predByte_afterOutput, lzwEncFeed_afterOutput]
  split
  · rfl
  next ebuf _ => exact emitOut_afterOutput inp sent { s with codec := some (.a85Enc (a85EncByte b ebuf).1) } _
  · split <;> rfl
  · exact emitOut_afterOutput inp sent s _
  · split <;> rfl
  · split <;> rfl
  · split <;> rfl
  · rfl

@[simp] theorem pushBytes_afterOutput (bytes : List Byte) :
    pushBytes bytes (afterOutput inp sent s) = afterOutput inp sent (pushBytes bytes s) := by
  induction bytes generalizing s with
  | nil => rfl
  | cons b bs ih =>
    simp only [pushBytes, afterOutput_phase, byteStep_afterOutput, ih]
    split <;> rfl

@[simp] theorem openStream_afterOutput :
    openStream (afterOutput inp sent s) = afterOutput inp sent (openStream s) := by
  unfold openStream
  simp only [afterOutput_codec]
  split
  · exact emitOut_afterOutput inp sent { s with codec := _ } _
  · rfl

@[simp] theorem lzwEncFlush_afterOutput :
    lzwEncFlush (afterOutput inp sent s) = afterOutput inp sent (lzwEncFlush s) := by
  unfold lzwEncFlush
  simp only [afterOutput_codec]
  split
  · exact emitOut_afterOutput inp sent { s with codec := _ } _
  · rfl

theorem unlessFaulted_afterOutput {f : State → State}
    (hf : ∀ t, f (afterOutput inp sent t) = afterOutput inp sent (f t)) :
    unlessFaulted f (afterOutput inp sent s) = afterOutput inp sent (unlessFaulted f s) := by
  simp only [unlessFaulted, afterOutput_phase, hf]
  split <;> rfl

@[simp] theorem lzwDecFinish_afterOutput (d : LzwDec) :
    lzwDecFinish d (afterOutput inp sent s) = afterOutput inp sent (lzwDecFinish d s) := by
  cases hf : s.fin
  · by_cases hn : d.nbits > 0 <;> simp [lzwDecFinish, hf, hn]
  · simp [lzwDecFinish, hf]

@[simp] theorem a85DecFinish_afterOutput :
    a85DecFinish (afterOutput inp sent s) = afterOutput inp sent (a85DecFinish s) := by
  cases hf : s.fin <;> simp [a85DecFinish, hf]

@[simp] theorem ahxDecFinish_afterOutput (d : AhxDec) :
    ahxDecFinish d (afterOutput inp sent s) = afterOutput inp sent (ahxDecFinish d s) := by
  cases hf : s.fin
  · cases hw : d.waiting <;> simp [ahxDecFinish, hf, hw]
  · simp [ahxDecFinish, hf]

@[simp] theorem finishStages_afterOutput :
    finishStages (afterOutput inp sent s) = afterOutput inp sent (finishStages s) := by
  unfold finishStages
  simp only [afterOutput_codec, afterOutput_chain, emitOut_afterOutput, a85DecFinish_afterOutput,
    ahxDecFinish_afterOutput, lzwDecFinish_afterOutput, openStream_afterOutput, predFinish_afterOutput,
    lzwEncFlush_afterOutput, unlessFaulted_afterOutput inp sent _ (predFinish_afterOutput inp sent),
    unlessFaulted_afterOutput inp sent _ (lzwEncFlush_afterOutput inp sent)]
  split
  · rfl
  · rfl
  · rfl
  · rfl
  · rfl
  · split <;> rfl
  · split <;> rfl
  · rfl

end

/-! ## The opening CLEAR is written once (R188) -/

/-- No opening CLEAR is owed. -/
def Opened (s : State) : Prop := ∀ e, s.codec = some (.lzwEnc e) → e.lead = false

theorem Opened.of_codec_eq {s t : State} (h : Opened s) (hc : t.codec = s.codec) : Opened t :=
  fun e he => h e (hc ▸ he)

theorem opened_faultEntry (cause : Cause) (sym : Code) (s : State) : Opened (faultEntry cause sym s) :=
  fun _ h => nomatch h

theorem Opened.openStream_eq {s : State} (h : Opened s) : openStream s = s := by
  by_cases hc : ∃ e, s.codec = some (.lzwEnc e)
  · obtain ⟨e, he⟩ := hc
    exact openStream_opened he (h e he)
  · exact openStream_other fun e he => hc ⟨e, he⟩

theorem lzwOpening_lead (e : LzwEnc) : (lzwOpening e).1.lead = false := by
  unfold lzwOpening
  split
  · rfl
  · simpa using ‹¬ e.lead = true›

theorem opened_openStream (s : State) : Opened (openStream s) := by
  unfold openStream
  split
  next e _ =>
    intro e' h
    cases h
    exact lzwOpening_lead e
  next hc => exact fun e he => absurd he (hc e)

theorem lzwBump_lead (e : LzwEnc) : (lzwBump e).1.lead = e.lead := by
  unfold lzwBump
  split_ifs <;> rfl

theorem lzwEncByte_lead (b : Byte) (e : LzwEnc) : (lzwEncByte b e).1.lead = e.lead := by
  unfold lzwEncByte
  dsimp only
  split
  · rfl
  · exact lzwBump_lead _

theorem opened_lzwEncFeed {s : State} (h : Opened s) (b : Byte) : Opened (lzwEncFeed b s) := by
  unfold lzwEncFeed
  split
  next e hc =>
    intro e' h'
    cases h'
    exact (lzwEncByte_lead b e).trans (h e hc)
  · exact h

theorem opened_foldl_lzwEncFeed {s : State} (h : Opened s) (bytes : List Byte) :
    Opened (bytes.foldl (fun t b => lzwEncFeed b t) s) := by
  induction bytes generalizing s with
  | nil => exact h
  | cons b bs ih => exact ih (opened_lzwEncFeed h b)

theorem opened_predSink {s : State} (h : Opened s) (bytes : List Byte) : Opened (predSink bytes s) := by
  unfold predSink
  split
  · exact opened_foldl_lzwEncFeed h bytes
  · exact h.of_codec_eq rfl

theorem opened_rowAnswer {s : State} (h : Opened s) (a : Answer (List Byte)) : Opened (rowAnswer a s) := by
  cases a with
  | raise cause sym => exact opened_faultEntry cause sym s
  | emit prev bytes term => exact opened_predSink (s := { s with rows := some { cur := [], prev := prev } }) h bytes

theorem opened_predByte {s : State} (h : Opened s) (x : Byte) : Opened (predByte x s) := by
  unfold predByte
  split
  · exact opened_predSink h _
  · dsimp only
    split
    · exact opened_rowAnswer h _
    · exact h.of_codec_eq rfl

theorem opened_predFeed {s : State} (h : Opened s) (bytes : List Byte) : Opened (predFeed bytes s) := by
  induction bytes generalizing s with
  | nil => exact h
  | cons x xs ih =>
    unfold predFeed
    split
    · exact ih (opened_predByte h x)
    · exact h

theorem opened_lzwAnswer (a : Answer LzwDec) (s : State) : Opened (lzwAnswer a s) := by
  cases a with
  | raise cause sym => exact opened_faultEntry cause sym s
  | emit d bytes term =>
    have hd : Opened { s with codec := some (.lzwDec d), fin := s.fin || term } := fun _ h => nomatch h
    simp only [lzwAnswer_emit, lzwDecSink]
    split
    · exact opened_predFeed hd bytes
    · exact hd.of_codec_eq rfl

theorem opened_lzwDecByte (b : Byte) (d : LzwDec) (s : State) : Opened (lzwDecByte b d s) := by
  unfold lzwDecByte
  split
  · exact fun _ h => nomatch h
  · exact opened_lzwAnswer _ s

theorem opened_applyAnswer {σ : Type} {wrap : σ → Codec} (hw : ∀ st e, wrap st ≠ .lzwEnc e) (a : Answer σ)
    (s : State) : Opened (applyAnswer wrap a s) := by
  cases a with
  | raise cause sym => exact opened_faultEntry cause sym s
  | emit st bytes term => exact fun e h => absurd (Option.some.inj h) (hw st e)

theorem opened_byteStep {s : State} (h : Opened s) (b : Byte) : Opened (byteStep b s) := by
  unfold byteStep
  split
  · exact h
  · exact fun _ h => nomatch h
  · split
    · exact h
    · exact opened_applyAnswer (fun _ _ => Codec.noConfusion) _ s
  · exact h.of_codec_eq rfl
  · split
    · exact h
    · exact opened_applyAnswer (fun _ _ => Codec.noConfusion) _ s
  · split
    · exact h
    · exact opened_lzwDecByte b _ s
  · split
    · exact opened_predByte h b
    · exact opened_lzwEncFeed h b
  · exact opened_predByte h b

theorem opened_pushBytes {s : State} (h : Opened s) (bytes : List Byte) : Opened (pushBytes bytes s) := by
  induction bytes generalizing s with
  | nil => exact h
  | cons b bs ih =>
    unfold pushBytes
    split
    · exact ih (opened_byteStep h b)
    · exact h

/-- FINISH writes an opening CLEAR that is still owed, so it does not matter whether a PUSH wrote it (R188). -/
theorem finishStages_openStream (s : State) : finishStages (openStream s) = finishStages s := by
  by_cases hc : ∃ e, s.codec = some (.lzwEnc e)
  · obtain ⟨e, he⟩ := hc
    have ho : (openStream s).codec = some (.lzwEnc (lzwOpening e).1) := by simp [openStream, he]
    have hch : (openStream s).chain = s.chain := by simp [openStream, he]
    simp only [finishStages, ho, he, hch, (opened_openStream s).openStream_eq]
  · rw [openStream_other fun e he => hc ⟨e, he⟩]

/-! ## The whole input in one transaction -/

/-- Where a transaction starts: nothing presented, nothing emitted, nothing pending at the ports. -/
def transactionStart (s : State) : State := { s with inp := [], out := [], port := [] }

/-- What PUSH makes of a payload in its transaction, before it answers (R132). -/
def pushed (bytes : List Byte) (s : State) : State := pushBytes bytes (openStream (transactionStart s))

/-- PUSH of the whole input and FINISH, as one transaction. -/
def wholeInput (bytes : List Byte) (s : State) : State := unlessFaulted finishStages (pushed bytes s)

/-- An invocation is running and every response so far was `OK`. -/
structure Running (s : State) : Prop where
  phase : s.phase = .active
  codec : s.codec ≠ none
  rsp : s.rsp = okWord

/-- The state an accepted PUSH leaves. -/
def afterPush (bytes : List Byte) (s : State) : State := { pushed bytes s with inp := [], rsp := okWord }

theorem pushed_rules (bytes : List Byte) (s : State) : Rules (transactionStart s) (pushed bytes s) :=
  (openStream_runs _).rules (pushBytes_rules bytes _)

theorem wholeInput_rules (bytes : List Byte) (s : State) : Rules (transactionStart s) (wholeInput bytes s) :=
  unlessFaulted_rules _ (pushed_rules bytes s) finishStages_rules

theorem afterPush_cfg (bytes : List Byte) (s : State) : (afterPush bytes s).cfg = s.cfg := by
  have hk : KeepsRegisters (transactionStart s) (pushed bytes s) := (pushed_rules bytes s).elim (·.keeps) (·.keeps)
  obtain ⟨hcfg, -⟩ := hk
  exact hcfg

theorem afterPush_running {bytes : List Byte} {s : State} (hs : Running s)
    (h : (pushed bytes s).phase = .active) : Running (afterPush bytes s) where
  phase := h
  codec := by
    have hc : (pushed bytes s).codec.isSome = s.codec.isSome := ((pushed_rules bytes s).runs h).codec
    rw [Option.isSome_iff_ne_none.2 hs.codec] at hc
    exact Option.isSome_iff_ne_none.1 hc
  rsp := rfl

/-- The transaction after an accepted PUSH goes on where the PUSH stopped, but for the output delivered. -/
theorem pushed_eq_afterOutput {bytes : List Byte} {s : State} (hs : Running s)
    (h : (pushed bytes s).phase = .active) :
    pushed bytes s = afterOutput [] (pushed bytes s).out (transactionStart (afterPush bytes s)) := by
  have hr := (pushed_rules bytes s).runs h
  have hinp : (pushed bytes s).inp = [] := hr.inp
  have hrsp : (pushed bytes s).rsp = okWord := hr.rsp.trans hs.rsp
  have hport : (pushed bytes s).port = [] := by
    obtain ⟨-, -, -, -, -, -, -, -, -, -, -, hport⟩ := hr.keeps
    exact hport
  unfold afterPush
  generalize pushed bytes s = t at h hinp hrsp hport
  cases t
  simp_all [afterOutput, transactionStart]

theorem wholeInput_nil {s : State} (h : s.phase = .active) :
    wholeInput [] s = finishStages (transactionStart s) := by
  have ho : (openStream (transactionStart s)).phase = .active := (openStream_runs _).phase.trans h
  simp only [wholeInput, pushed, pushBytes_nil, unlessFaulted, if_pos ho, finishStages_openStream]

theorem wholeInput_append_eq (a b : List Byte) (s : State) :
    wholeInput (a ++ b) s = unlessFaulted finishStages (pushBytes b (pushed a s)) := by
  rw [wholeInput, pushed, pushBytes_append, pushed]

/-- A first piece that faults decides the whole (R266). -/
theorem wholeInput_append_faulted {a b : List Byte} {s : State} (h : (pushed a s).phase ≠ .active) :
    wholeInput (a ++ b) s = pushed a s := by
  rw [wholeInput_append_eq, pushBytes_inactive b _ h, unlessFaulted, if_neg h]

/-- After a first piece that is accepted the rest may come in a transaction of its own: the output is what
both have emitted (R63, R188). -/
theorem wholeInput_append {a b : List Byte} {s : State} (hs : Running s) (h : (pushed a s).phase = .active) :
    wholeInput (a ++ b) s = afterOutput [] (pushed a s).out (wholeInput b (afterPush a s)) := by
  have hopen : Opened (transactionStart (afterPush a s)) :=
    (opened_pushBytes (opened_openStream _) a).of_codec_eq rfl
  have hnext : pushed b (afterPush a s) = pushBytes b (transactionStart (afterPush a s)) := by
    rw [pushed, hopen.openStream_eq]
  calc wholeInput (a ++ b) s
      = unlessFaulted finishStages (pushBytes b (pushed a s)) := wholeInput_append_eq a b s
    _ = unlessFaulted finishStages
          (pushBytes b (afterOutput [] (pushed a s).out (transactionStart (afterPush a s)))) := by
        rw [← pushed_eq_afterOutput hs h]
    _ = afterOutput [] (pushed a s).out (unlessFaulted finishStages
          (pushBytes b (transactionStart (afterPush a s)))) := by
        rw [pushBytes_afterOutput, unlessFaulted_afterOutput _ _ _ (finishStages_afterOutput _ _)]
    _ = afterOutput [] (pushed a s).out (wholeInput b (afterPush a s)) := by
        rw [wholeInput, hnext]

/-! ## The commands of an invocation, in these terms -/

/-- PUSH reads its payload where the host presents it, and nowhere else. -/
theorem pushBytes_present (chunk : List Byte) (s : State) :
    pushBytes chunk (openStream { present chunk [] s with out := [] }) = { pushed chunk s with inp := chunk } := by
  have hp : { present chunk [] s with out := [] } = afterOutput chunk [] (transactionStart s) := by
    rw [afterOutput_nil]
    rfl
  rw [hp, openStream_afterOutput, pushBytes_afterOutput, afterOutput_nil, pushed]

/-- The answer of a PUSH whose bytes have left `t` (R132). -/
def answerPush (t : State) : State :=
  if t.phase = .active then { t with inp := [], rsp := okWord } else { t with inp := [] }

theorem pushActive_eq (s : State) :
    pushActive s = answerPush (pushBytes s.inp (openStream { s with out := [] })) := by
  unfold pushActive answerPush
  dsimp only
  split <;> rfl

theorem pushActive_present (chunk : List Byte) (s : State) :
    pushActive (present chunk [] s) = answerPush (pushed chunk s) :=
  calc pushActive (present chunk [] s)
      = answerPush { pushed chunk s with inp := chunk } :=
        (pushActive_eq _).trans (congrArg answerPush (pushBytes_present chunk s))
    _ = answerPush (pushed chunk s) := rfl

theorem execPush_running {chunk : List Byte} {s : State} (hs : Running s)
    (hfit : ∀ m, s.cfg.chunkMax = some m → chunk.length ≤ m) :
    execPush (present chunk [] s) = .next (answerPush (pushed chunk s)) := by
  obtain ⟨c, hc⟩ := Option.ne_none_iff_exists'.1 hs.codec
  rw [← pushActive_present]
  exact execPush_active hs.phase hc hfit

theorem execFinish_running {s : State} (hs : Running s) :
    execFinish (present [] [] s) =
      .next (if (wholeInput [] s).phase = .active then
        { wholeInput [] s with codec := none, rows := none, phase := .done, rsp := okWord }
      else wholeInput [] s) := by
  obtain ⟨c, hc⟩ := Option.ne_none_iff_exists'.1 hs.codec
  rw [wholeInput_nil hs.phase]
  exact execFinish_active hs.phase hc

theorem fetchCommand_push : fetchCommand 2#32 = some .push := by decide

theorem fetchCommand_finish : fetchCommand 3#32 = some .finish := by decide

theorem fetchCommand_start (unit : CodecUnit) (dir : Direction) :
    fetchCommand (0#24 ++ dir.code ++ unit.code ++ 1#4) = some (startInstr unit dir) := by
  cases unit <;> cases dir <;> decide

theorem exec_start (unit : CodecUnit) (dir : Direction) (s : State) :
    exec (startInstr unit dir) s = .next (startWith unit dir (createdCodec unit dir) s) := by
  cases unit <;> cases dir <;> rfl

/-- START that passes its checks leaves an invocation running (R123). -/
theorem startWith_running {unit : CodecUnit} {dir : Direction} (create : Latches → Codec) {s : State}
    (h : startChecks s.cfg unit dir (latchOf s) = true) : Running (startWith unit dir create s) := by
  rw [startWith_cases, if_pos h]
  exact ⟨rfl, Option.some_ne_none _, rfl⟩

theorem startWith_faults {unit : CodecUnit} {dir : Direction} (create : Latches → Codec) {s : State}
    (h : ¬ startChecks s.cfg unit dir (latchOf s) = true) :
    Faults (startLatch unit dir s) (startWith unit dir create s) := by
  rw [startWith_cases, if_neg h]
  exact faults_faultEntry _ _ _

theorem startWith_cfg (unit : CodecUnit) (dir : Direction) (create : Latches → Codec) (s : State) :
    (startWith unit dir create s).cfg = s.cfg := by
  rw [startWith_cases]
  split <;> rfl

/-! ## What a script answers -/

/-- The verdict of responses, and their joined output where it is `OK` (R66, R136). -/
def settle (rs : List Response) : Word × List Byte :=
  (verdict rs, if verdict rs = okWord then delivered rs else [])

/-- What a script run from `s` answers (R66). -/
def settledRun (ops : List PortOp) (s : State) : Option (Word × List Byte) :=
  (runScript ops s).map fun r => settle r.2

/-- What a transaction that ended in `s` answers the host: `OK` with the output, or the fault word. -/
def answerOf (s : State) : Word × List Byte :=
  if s.phase = .active then (okWord, s.out) else (s.rsp, [])

/-- An answer with `sent` delivered before it; a fault leaves no output (R66). -/
def withSent (sent : List Byte) (a : Word × List Byte) : Word × List Byte :=
  (a.1, if a.1 = okWord then sent ++ a.2 else [])

theorem outcome_eq_settledRun (unit : CodecUnit) (dir : Direction) (chunks : List (List Byte)) (s : State) :
    outcome unit dir chunks s = settledRun (invocation unit dir chunks) s := by
  unfold outcome settledRun
  cases runScript (invocation unit dir chunks) s <;> rfl

theorem settle_cons_fault {w : Word} (h : w ≠ okWord) (payload : List Byte) (rs : List Response) :
    settle ({ word := w, payload := payload } :: rs) = (w, []) := by
  simp [settle, verdict, h]

theorem settle_cons_ok (payload : List Byte) (rs : List Response) :
    settle ({ word := okWord, payload := payload } :: rs) = withSent payload (settle rs) := by
  have hv : verdict ({ word := okWord, payload := payload } :: rs) = verdict rs := by simp [verdict]
  by_cases h : verdict rs = okWord <;> simp [settle, withSent, hv, h, delivered]

/-- `RC` of a fault word is 1 (R94). -/
theorem errorWord_ne_okWord (cause : Cause) (sym : Code) : errorWord cause sym ≠ okWord := by
  have hrc : (errorWord cause sym).getLsbD 0 = true := BitVec.getLsbD_append.trans rfl
  exact fun h => absurd (h ▸ hrc) (by decide)

theorem Faults.rsp_ne_okWord {s t : State} (h : Faults s t) : t.rsp ≠ okWord := by
  obtain ⟨cause, sym, _, rfl⟩ := h.entry
  exact errorWord_ne_okWord cause sym

theorem answerOf_faulted {s t : State} (h : Faults s t) : answerOf t = (t.rsp, []) := by
  simp [answerOf, h.phase]

/-- Output delivered before a transaction stands before its answer. -/
theorem answerOf_afterOutput {s t : State} (h : Rules s t) (ha : s.phase = .active) (sent : List Byte) :
    answerOf (afterOutput [] sent t) = withSent sent (answerOf t) := by
  obtain hr | hf := h
  · have ht : t.phase = .active := hr.phase.trans ha
    simp [answerOf, withSent, ht, afterOutput_out_active]
  · simp [answerOf, withSent, hf.phase, hf.rsp_ne_okWord]

/-- One command with its payload, then the rest of the script. -/
theorem runScript_command {s t : State} {w : Word} {i : Instr} {payload : List Byte} {ops : List PortOp}
    (hi : fetchCommand w = some i) (hx : exec i (present payload [] s) = .next t) :
    runScript (.write 0 w payload :: ops) s =
      (runScript ops t).map fun r => (r.1, { word := t.rsp, payload := t.out } :: r.2) := by
  have hstep : step { s with port := [.write 0 w payload] } = .next t := by
    simp only [step, if_pos, hi]
    exact hx
  simp only [runScript, hstep]
  cases runScript ops t <;> rfl

theorem settledRun_ok {s t : State} {w : Word} {i : Instr} {payload : List Byte} {ops : List PortOp}
    {a : Word × List Byte} (hi : fetchCommand w = some i) (hx : exec i (present payload [] s) = .next t)
    (hok : t.rsp = okWord) (hrest : settledRun ops t = some a) :
    settledRun (.write 0 w payload :: ops) s = some (withSent t.out a) := by
  obtain ⟨r, hr, rfl⟩ := Option.map_eq_some_iff.1 hrest
  simp [settledRun, runScript_command hi hx, hr, hok, settle_cons_ok]

/-- The first response that is not `OK` decides (R66), whatever the rest of the script does. -/
theorem settledRun_fault {s t : State} {w : Word} {i : Instr} {payload : List Byte} {ops : List PortOp}
    (hi : fetchCommand w = some i) (hx : exec i (present payload [] s) = .next t)
    (hne : t.rsp ≠ okWord) (hrest : ∃ r, runScript ops t = some r) :
    settledRun (.write 0 w payload :: ops) s = some (t.rsp, []) := by
  obtain ⟨r, hr⟩ := hrest
  simp [settledRun, runScript_command hi hx, hr, settle_cons_fault hne]

/-! ## An invocation answers what the whole input in one transaction does -/

/-- The rest of an invocation after its START: a PUSH for each payload, then FINISH. -/
def pushesThenFinish (chunks : List (List Byte)) : List PortOp := chunks.map pushOp ++ [finishOp]

/-- Outside phase ACTIVE every PUSH and FINISH is rejected (R121), and the script goes on to its end. -/
theorem runScript_inactive (chunks : List (List Byte)) {s : State} (h : s.phase ≠ .active) :
    ∃ r, runScript (pushesThenFinish chunks) s = some r := by
  induction chunks generalizing s with
  | nil => exact ⟨_, runScript_command fetchCommand_finish (execFinish_rejected h)⟩
  | cons c cs ih =>
    obtain ⟨r, hr⟩ := ih (s := reject (present c [] s)) h
    exact ⟨_, (runScript_command fetchCommand_push (execPush_rejected (.inl h))).trans (congrArg _ hr)⟩

theorem settledRun_finish {s : State} (hs : Running s) :
    settledRun [finishOp] s = some (answerOf (wholeInput [] s)) := by
  have hx := execFinish_running hs
  obtain hr | hf := wholeInput_rules [] s
  · have ha : (wholeInput [] s).phase = .active := hr.phase.trans hs.phase
    rw [if_pos ha] at hx
    have hnil (t : State) : settledRun [] t = some (okWord, []) := rfl
    simpa [withSent, answerOf, ha, finishOp, cmdOp] using settledRun_ok fetchCommand_finish hx rfl (hnil _)
  · rw [if_neg (by simp [hf.phase])] at hx
    rw [answerOf_faulted hf]
    exact settledRun_fault fetchCommand_finish hx hf.rsp_ne_okWord ⟨_, rfl⟩

theorem settledRun_pushesThenFinish (chunks : List (List Byte)) {s : State} (hs : Running s)
    (hfit : PayloadsFit chunks s) :
    settledRun (pushesThenFinish chunks) s = some (answerOf (wholeInput chunks.flatten s)) := by
  induction chunks generalizing s with
  | nil => exact settledRun_finish hs
  | cons c cs ih =>
    have hx := execPush_running hs fun m hm => hfit m hm c List.mem_cons_self
    obtain hr | hf := pushed_rules c s
    · have ha : (pushed c s).phase = .active := hr.phase.trans hs.phase
      have hs' := afterPush_running hs ha
      have hfit' : PayloadsFit cs (afterPush c s) := fun m hm p hp =>
        hfit m (afterPush_cfg c s ▸ hm) p (List.mem_cons_of_mem c hp)
      rw [show answerPush (pushed c s) = afterPush c s from if_pos ha] at hx
      rw [List.flatten_cons, wholeInput_append hs ha, answerOf_afterOutput (wholeInput_rules _ (afterPush c s)) ha]
      exact settledRun_ok (t := afterPush c s) fetchCommand_push hx rfl (ih hs' hfit')
    · have hna : (pushed c s).phase ≠ .active := by simp [hf.phase]
      rw [show answerPush (pushed c s) = { pushed c s with inp := [] } from if_neg hna] at hx
      rw [List.flatten_cons, wholeInput_append_faulted hna, answerOf_faulted hf]
      exact settledRun_fault (t := { pushed c s with inp := [] }) fetchCommand_push hx hf.rsp_ne_okWord
        (runScript_inactive cs hna)

/-- What an invocation over `bytes` answers, with no word of how they are cut. -/
def invocationAnswer (unit : CodecUnit) (dir : Direction) (bytes : List Byte) (s : State) : Word × List Byte :=
  let t := startWith unit dir (createdCodec unit dir) (present [] [] s)
  if startChecks s.cfg unit dir (latchOf s) then withSent t.out (answerOf (wholeInput bytes t)) else (t.rsp, [])

theorem outcome_eq_invocationAnswer (unit : CodecUnit) (dir : Direction) {chunks : List (List Byte)} {s : State}
    (hfit : PayloadsFit chunks s) :
    outcome unit dir chunks s = some (invocationAnswer unit dir chunks.flatten s) := by
  have hi := fetchCommand_start unit dir
  have hx := exec_start unit dir (present [] [] s)
  rw [outcome_eq_settledRun, invocationAnswer]
  by_cases h : startChecks s.cfg unit dir (latchOf s) = true
  · have hs := startWith_running (createdCodec unit dir) (s := present [] [] s) h
    have hfit' : PayloadsFit chunks _ := fun m hm =>
      hfit m (startWith_cfg unit dir (createdCodec unit dir) (present [] [] s) ▸ hm)
    rw [if_pos h]
    exact settledRun_ok hi hx hs.rsp (settledRun_pushesThenFinish chunks hs hfit')
  · have hf := startWith_faults (createdCodec unit dir) (s := present [] [] s) h
    rw [if_neg h]
    exact settledRun_fault hi hx hf.rsp_ne_okWord (runScript_inactive chunks (by simp [hf.phase]))

/-- Settles O22: the outcome of an invocation is a function of its whole input. -/
theorem chunkIndependence : Obligations.ChunkIndependence := by
  unfold Obligations.ChunkIndependence
  intro unit dir cut cut' s hflat hfit hfit'
  have h := outcome_eq_invocationAnswer unit dir hfit
  have h' := outcome_eq_invocationAnswer unit dir hfit'
  rw [← hflat] at h'
  generalize invocationAnswer unit dir cut.flatten s = a at h h'
  exact ⟨a.1, a.2, h, h'⟩

end Sys2Proof.Machine
end

section
/-! # Words and their fields

A command word is the concatenation of its fields, so the table of R92 is read off the decoder's branches (R91, R93);
a word built from fields is the sum of the fields in their places (R23, R94). -/

namespace Sys2Proof.Machine

/-! ## Command words -/

/-- The command word with the given fields, high bits first (R91). -/
def commandOf (high : BitVec 24) (dir : Bool) (unit : BitVec 3) (opc : BitVec 4) : Word :=
  high ++ BitVec.ofBool dir ++ unit ++ opc

theorem ofBool_getLsbD {n : Nat} (x : BitVec n) (k : Nat) : BitVec.ofBool (x.getLsbD k) = x.extractLsb' k 1 := by
  ext i hi
  obtain rfl : i = 0 := by omega
  simp

/-- A word is the command word of the fields the decoder reads from it. -/
theorem commandOf_fields (w : Word) :
    commandOf (w.extractLsb' 8 24) (w.getLsbD 7) (w.extractLsb' 4 3) (w.extractLsb' 0 4) = w := by
  unfold commandOf
  rw [ofBool_getLsbD, BitVec.extractLsb'_append_extractLsb'_eq_extractLsb' (show 8 = 7 + 1 from rfl),
    BitVec.extractLsb'_append_extractLsb'_eq_extractLsb' (show 7 = 4 + 3 from rfl),
    BitVec.extractLsb'_append_extractLsb'_eq_extractLsb' (show 4 = 0 + 4 from rfl), BitVec.extractLsb'_eq_self]

/-- The table of R92. -/
def commandTable : List (Word × Instr) :=
  [(0x00#32, .nop), (0x01#32, .startA85Dec), (0x81#32, .startA85Enc), (0x11#32, .startAhxDec),
    (0x91#32, .startAhxEnc), (0x21#32, .startLzwDec), (0xA1#32, .startLzwEnc), (0x31#32, .startPredDec),
    (0xB1#32, .startPredEnc), (0x02#32, .push), (0x03#32, .finish), (0x04#32, .abort)]

theorem decode_of_mem_commandTable : ∀ p ∈ commandTable, decode (.cmd p.1) = some p.2 := by decide

/-- One row of the table for each `UNIT` of `decodeStart` and each direction. -/
theorem mem_commandTable_of_decodeStart {unit : BitVec 3} {dir : Bool} {i : Instr}
    (h : decodeStart unit dir = some i) : (commandOf 0#24 dir unit 1#4, i) ∈ commandTable := by
  cases dir
  all_goals
    simp only [decodeStart, Bool.false_eq_true, ↓reduceIte] at h
    split_ifs at h <;> cases h <;> subst unit <;> decide

/-- Each branch in which `decodeCmd` answers fixes every field of the word, or leaves `UNIT` and `DIR` to
`decodeStart`. -/
theorem mem_commandTable_of_decodeCmd {w : Word} {i : Instr} (h : decodeCmd w = some i) :
    (w, i) ∈ commandTable := by
  rw [← commandOf_fields w]
  simp only [decodeCmd] at h
  generalize w.extractLsb' 8 24 = high, w.getLsbD 7 = dir, w.extractLsb' 4 3 = unit, w.extractLsb' 0 4 = opc at h ⊢
  split at h
  next => cases h
  next hhigh =>
    obtain rfl := not_not.1 hhigh
    split at h
    next hstart =>
      subst hstart
      exact mem_commandTable_of_decodeStart h
    next =>
      split at h
      next => cases h
      next hfields =>
        obtain ⟨rfl, rfl⟩ : unit = 0#3 ∧ dir = false := by simpa using hfields
        split_ifs at h <;> cases h <;> subst opc <;> decide

/-- Settles O3: each of the twelve words decodes to its row, and a word that decodes is in the table. -/
theorem twelveCommandWords : Obligations.TwelveCommandWords := by
  unfold Obligations.TwelveCommandWords
  exact fun w i => ⟨mem_commandTable_of_decodeCmd, decode_of_mem_commandTable (w, i)⟩

/-! ## Words as sums of their fields -/

theorem toNat_append_eq_add {m n : Nat} (x : BitVec m) (y : BitVec n) :
    (x ++ y).toNat = 2 ^ n * x.toNat + y.toNat := by
  rw [BitVec.toNat_append, ← Nat.shiftLeft_add_eq_or_of_lt y.isLt, Nat.shiftLeft_eq, Nat.mul_comm]

/-- `STATUS` as a sum (R23). -/
theorem statusWord_toNat (s : State) :
    (statusWord s).toNat = s.phase.code.toNat + 4 * s.unit.code.toNat + 32 * s.dir.code.toNat +
      64 * s.chain.toNat + 128 * s.fin.toNat + 256 * s.errkind.code.toNat := by
  simp only [statusWord, toNat_append_eq_add, BitVec.toNat_ofBool, BitVec.toNat_ofNat]
  omega

/-- A response word as a sum (R94, R95). -/
theorem responseWord_toNat (rc : BitVec 2) (kind : ErrKind) (cause : BitVec 8) (sym : Code) :
    (responseWord rc kind cause sym).toNat =
      rc.toNat + 4 * kind.code.toNat + 256 * cause.toNat + 65536 * sym.toNat := by
  simp only [responseWord, toNat_append_eq_add, BitVec.toNat_ofNat]
  omega

/-- Settles O10: the fields' numbers by cases, the two words as sums, R95's worked words by evaluation. -/
theorem statusAndResponseFields : Obligations.StatusAndResponseFields := by
  unfold Obligations.StatusAndResponseFields
  refine ⟨?phase, ?unit, ?dir, ?kind, statusWord_toNat, responseWord_toNat, by decide, by decide, by decide⟩
  case phase => intro p; cases p <;> decide
  case unit => intro u; cases u <;> decide
  case dir => intro d; cases d <;> decide
  case kind => intro k; cases k <;> decide

end Sys2Proof.Machine
end

section
/-! # Commands

The commands that are accepted in every phase and never fail: the whole next state of each. -/

namespace Sys2Proof.Machine

/-- `NOP`: the answer `OK` with no payload, every other field kept (R122). -/
theorem exec_nop (s : State) : exec .nop s = .next { s with rsp := 0#32, out := [] } := rfl

/-- `ABORT`: the reset values of descriptor and fault, no codec state, phase IDLE; the parameter registers, the latches and
the host's port are kept (R134). -/
theorem exec_abort (s : State) :
    exec .abort s =
      .next { s with codec := none, rows := none, phase := .idle, unit := .a85, dir := .dec, chain := false,
                     fin := false, errkind := .noError, errinfo := 0#32, rsp := 0#32, out := [] } := rfl

/-- Settles O12: the two words are rows of the command table, and neither command reads the phase. -/
theorem nopAndAbort : Obligations.NopAndAbort := by
  unfold Obligations.NopAndAbort
  have hnop : decode (.cmd 0x00#32) = some .nop :=
    decode_of_mem_commandTable (0x00#32, .nop) (by decide)
  have habort : decode (.cmd 0x04#32) = some .abort :=
    decode_of_mem_commandTable (0x04#32, .abort) (by decide)
  exact ⟨hnop, habort, fun s => ⟨exec_nop s, exec_abort s⟩⟩

end Sys2Proof.Machine
end

section
/-! # The symbols of the two text decoders

A row of A85CH, A85CH_T or AHXCH is a block of byte values: the bytes that agree with the row's `match` under its
`mask` (R107). A block is an interval, so the tests of the byte rules (R143, R163) decide each row by its ends, and
every row does what the byte rule does with its byte. -/

namespace Sys2Proof.Machine

/-! ## Classes of bytes -/

/-- The bytes of a block lie between its `match` and its `match` plus all the bits its mask leaves free. -/
theorem block_range {ch : Byte} {mask pattern : Nat}
    (h : (ch &&& BitVec.ofNat 8 mask == BitVec.ofNat 8 pattern) = true) :
    pattern % 256 ≤ ch.toNat ∧ ch.toNat ≤ pattern % 256 + (255 - mask % 256) := by
  have hfix := congrArg BitVec.toNat (beq_iff_eq.1 h)
  generalize hm : BitVec.ofNat 8 mask = m at hfix
  have hmask : m.toNat = mask % 256 := by rw [← hm, BitVec.toNat_ofNat]
  have hdisj : (ch &&& m) &&& (ch &&& ~~~m) = 0#8 := by
    ext k hk
    cases hb : m[k] <;> simp [hb]
  have hjoin : (ch &&& m) + (ch &&& ~~~m) = ch := by
    rw [BitVec.add_eq_or_of_and_eq_zero _ _ hdisj]
    ext k hk
    cases hb : m[k] <;> simp [hb]
  have hfree : (ch &&& ~~~m).toNat ≤ 255 - m.toNat := by
    rw [BitVec.toNat_and, BitVec.toNat_not]
    exact Nat.and_le_right
  have hsum := BitVec.toNat_add_of_and_eq_zero hdisj
  rw [hjoin, hfix, BitVec.toNat_ofNat] at hsum
  omega

theorem isWs_iff_toNat (ch : Byte) :
    isWs ch = true ↔ ch.toNat = 0x00 ∨ ch.toNat = 0x09 ∨ ch.toNat = 0x0A ∨ ch.toNat = 0x0C ∨
      ch.toNat = 0x0D ∨ ch.toNat = 0x20 := by
  simp [isWs, ← BitVec.toNat_inj, or_assoc]

theorem mem_ws_iff (ch : Byte) :
    ch ∈ [0x00#8, 0x09#8, 0x0A#8, 0x0C#8, 0x0D#8, 0x20#8] ↔ isWs ch = true := by
  simp [isWs, or_assoc]

theorem hexval_eq_none {ch : Byte} (hnum : ¬ (0x30 ≤ ch.toNat ∧ ch.toNat ≤ 0x39))
    (hup : ¬ (0x41 ≤ ch.toNat ∧ ch.toNat ≤ 0x46)) (hlow : ¬ (0x61 ≤ ch.toNat ∧ ch.toNat ≤ 0x66)) :
    hexval ch = none := by
  rw [hexval, if_neg hnum, if_neg hup, if_neg hlow]

/-! ## The tests of a byte, one equation per outcome (R143, R163) -/

section
variable {ch : Byte} {d : A85Dec}

theorem a85DecByte_ws (h : isWs ch = true) : a85DecByte ch d = a85Skip d := if_pos h

theorem a85DecByte_gt (ht : d.tilde = true) : a85DecByte 0x3E#8 d = a85Gt d := by
  simp [a85DecByte, isWs, ht]

theorem a85DecByte_badTerm (ht : d.tilde = true) (hw : ¬ isWs ch = true) (hg : ch ≠ 0x3E#8) :
    a85DecByte ch d = a85BadTerm ch := by
  simp [a85DecByte, hw, ht, hg]

theorem a85DecByte_tilde (ht : d.tilde = false) : a85DecByte 0x7E#8 d = a85Tilde d := by
  simp [a85DecByte, isWs, ht]

theorem a85DecByte_z (ht : d.tilde = false) : a85DecByte 0x7A#8 d = a85Z d := by
  simp [a85DecByte, isWs, ht]

theorem a85DecByte_digit (ht : d.tilde = false) (h : 0x21 ≤ ch.toNat ∧ ch.toNat ≤ 0x75) :
    a85DecByte ch d = a85Digit ch d := by
  have hw : ¬ isWs ch = true := by rw [isWs_iff_toNat]; omega
  have h7E : ch ≠ 0x7E#8 := by rintro rfl; exact absurd h.2 (by decide)
  have h7A : ch ≠ 0x7A#8 := by rintro rfl; exact absurd h.2 (by decide)
  simp [a85DecByte, hw, ht, h7E, h7A, h]

theorem a85DecByte_badChar (ht : d.tilde = false) (hw : ¬ isWs ch = true) (h7E : ch ≠ 0x7E#8)
    (h7A : ch ≠ 0x7A#8) (hd : ¬ (0x21 ≤ ch.toNat ∧ ch.toNat ≤ 0x75)) :
    a85DecByte ch d = a85BadChar ch := by
  simp only [a85DecByte, hw, ht, h7E, h7A, hd]
  rfl

theorem ahxDecByte_ws {d : AhxDec} (h : isWs ch = true) : ahxDecByte ch d = ahxSkip d := if_pos h

theorem ahxDecByte_gt {d : AhxDec} : ahxDecByte 0x3E#8 d = ahxGt d := rfl

theorem ahxDecByte_digit {d : AhxDec} (hw : ¬ isWs ch = true) (hg : ch ≠ 0x3E#8) :
    ahxDecByte ch d = ahxDigit ch d := by
  simp [ahxDecByte, hw, hg]

theorem ahxDecByte_badChar {d : AhxDec} (hw : ¬ isWs ch = true) (hg : ch ≠ 0x3E#8) (hx : hexval ch = none) :
    ahxDecByte ch d = ahxBadChar ch := by
  rw [ahxDecByte_digit hw hg, ahxDigit, hx]
end


/-! ## Every row does what the byte rule does -/

/-- The row of `i` applies the byte rule of `ch` of the A85 decoder, before (`tilde = false`) or after a `~`. -/
def A85RowRuns (tilde : Bool) (i : Instr) (ch : Byte) : Prop :=
  ∃ rule, (∀ s, exec i s = a85Symbol tilde rule s) ∧ ∀ d : A85Dec, d.tilde = tilde → rule d = a85DecByte ch d

/-- The row of `i` applies the byte rule of `ch` of the AHX decoder. -/
def AhxRowRuns (i : Instr) (ch : Byte) : Prop :=
  ∃ rule, (∀ s, exec i s = ahxSymbol rule s) ∧ ∀ d : AhxDec, rule d = ahxDecByte ch d

section
variable {i : Instr} {ch : Byte} {tilde : Bool}

theorem a85RowRuns_ws (hx : ∀ s, exec i s = a85Symbol tilde a85Skip s) (h : isWs ch = true) :
    A85RowRuns tilde i ch :=
  ⟨a85Skip, hx, fun _ _ => (a85DecByte_ws h).symm⟩

theorem a85RowRuns_digit (hx : ∀ s, exec i s = a85Symbol false (a85Digit ch) s)
    (h : 0x21 ≤ ch.toNat ∧ ch.toNat ≤ 0x75) : A85RowRuns false i ch :=
  ⟨a85Digit ch, hx, fun _ ht => (a85DecByte_digit ht h).symm⟩

/-- The blocks of the BAD rows of A85CH (R96). -/
theorem a85RowRuns_badChar (hx : ∀ s, exec i s = a85Symbol false (fun _ => a85BadChar ch) s)
    (h : 0x01 ≤ ch.toNat ∧ ch.toNat ≤ 0x08 ∨ ch.toNat = 0x0B ∨ 0x0E ≤ ch.toNat ∧ ch.toNat ≤ 0x1F ∨
      0x76 ≤ ch.toNat ∧ ch.toNat ≤ 0x79 ∨ 0x7B ≤ ch.toNat ∧ ch.toNat ≤ 0x7D ∨ 0x7F ≤ ch.toNat) :
    A85RowRuns false i ch := by
  refine ⟨fun _ => a85BadChar ch, hx, fun _ ht => (a85DecByte_badChar ht ?_ ?_ ?_ ?_).symm⟩
  · rw [isWs_iff_toNat]; omega
  · rintro rfl; revert h; decide
  · rintro rfl; revert h; decide
  · omega

/-- The blocks of the BAD rows of A85CH_T (R96). -/
theorem a85RowRuns_badTerm (hx : ∀ s, exec i s = a85Symbol true (fun _ => a85BadTerm ch) s)
    (h : 0x01 ≤ ch.toNat ∧ ch.toNat ≤ 0x08 ∨ ch.toNat = 0x0B ∨ 0x0E ≤ ch.toNat ∧ ch.toNat ≤ 0x1F ∨
      0x21 ≤ ch.toNat ∧ ch.toNat ≤ 0x3D ∨ 0x3F ≤ ch.toNat) :
    A85RowRuns true i ch := by
  refine ⟨fun _ => a85BadTerm ch, hx, fun _ ht => (a85DecByte_badTerm ht ?_ ?_).symm⟩
  · rw [isWs_iff_toNat]; omega
  · rintro rfl; revert h; decide

theorem ahxRowRuns_ws (hx : ∀ s, exec i s = ahxSymbol ahxSkip s) (h : isWs ch = true) : AhxRowRuns i ch :=
  ⟨ahxSkip, hx, fun _ => (ahxDecByte_ws h).symm⟩

/-- The blocks of the HEX rows (R98). -/
theorem ahxRowRuns_digit (hx : ∀ s, exec i s = ahxSymbol (ahxDigit ch) s)
    (h : 0x30 ≤ ch.toNat ∧ ch.toNat ≤ 0x39 ∨ 0x41 ≤ ch.toNat ∧ ch.toNat ≤ 0x46 ∨
      0x61 ≤ ch.toNat ∧ ch.toNat ≤ 0x66) :
    AhxRowRuns i ch := by
  refine ⟨ahxDigit ch, hx, fun _ => (ahxDecByte_digit ?_ ?_).symm⟩
  · rw [isWs_iff_toNat]; omega
  · rintro rfl; revert h; decide

/-- The blocks of the BAD rows of AHXCH (R98). -/
theorem ahxRowRuns_badChar (hx : ∀ s, exec i s = ahxSymbol (fun _ => ahxBadChar ch) s)
    (h : 0x01 ≤ ch.toNat ∧ ch.toNat ≤ 0x08 ∨ ch.toNat = 0x0B ∨ 0x0E ≤ ch.toNat ∧ ch.toNat ≤ 0x1F ∨
      0x21 ≤ ch.toNat ∧ ch.toNat ≤ 0x2F ∨ 0x3A ≤ ch.toNat ∧ ch.toNat ≤ 0x3D ∨ ch.toNat = 0x3F ∨
      ch.toNat = 0x40 ∨ 0x47 ≤ ch.toNat ∧ ch.toNat ≤ 0x60 ∨ 0x67 ≤ ch.toNat) :
    AhxRowRuns i ch := by
  refine ⟨fun _ => ahxBadChar ch, hx, fun _ => (ahxDecByte_badChar ?_ ?_ (hexval_eq_none ?_ ?_ ?_)).symm⟩
  · rw [isWs_iff_toNat]; omega
  · rintro rfl; revert h; decide
  · omega
  · omega
  · omega
end

/-- Each row of the format, its block read off `wf` (R107). -/
theorem a85RowRuns_of_encode {i : Instr} {ch : Byte} (hw : i.wf = true) (he : encode i = .a85ch ch) :
    A85RowRuns false i ch := by
  cases i <;> simp only [encode, reduceCtorEq, Enc.a85ch.injEq] at he <;> subst he
  case a85chWs00 | a85chWs09 | a85chWs0A | a85chWs20 =>
    exact a85RowRuns_ws (fun _ => rfl) (by decide)
  case a85chWs0Cto0D =>
    exact a85RowRuns_ws (fun _ => rfl) ((isWs_iff_toNat _).2 (by have := block_range hw; omega))
  case a85chDigit21 =>
    exact a85RowRuns_digit (fun _ => rfl) (by decide)
  case a85chDigit22to23 | a85chDigit24to27 | a85chDigit28to2F | a85chDigit30to3F | a85chDigit40to5F
      | a85chDigit60to6F | a85chDigit70to73 | a85chDigit74to75 =>
    exact a85RowRuns_digit (fun _ => rfl) (by have := block_range hw; omega)
  case a85chBad01 | a85chBad08 | a85chBad0B | a85chBad7B | a85chBad7F =>
    exact a85RowRuns_badChar (fun _ => rfl) (by decide)
  case a85chBad02to03 | a85chBad04to07 | a85chBad0Eto0F | a85chBad10to1F | a85chBad76to77 | a85chBad78to79
      | a85chBad7Cto7D | a85chBad80toFF =>
    exact a85RowRuns_badChar (fun _ => rfl) (by have := block_range hw; omega)
  case a85chZ7A =>
    exact ⟨a85Z, fun _ => rfl, fun _ ht => (a85DecByte_z ht).symm⟩
  case a85chTilde7E =>
    exact ⟨a85Tilde, fun _ => rfl, fun _ ht => (a85DecByte_tilde ht).symm⟩

/-- Each row of the format, its block read off `wf` (R107). -/
theorem a85RowRuns_of_encodeT {i : Instr} {ch : Byte} (hw : i.wf = true) (he : encode i = .a85chT ch) :
    A85RowRuns true i ch := by
  cases i <;> simp only [encode, reduceCtorEq, Enc.a85chT.injEq] at he <;> subst he
  case a85chTWs00 | a85chTWs09 | a85chTWs0A | a85chTWs20 =>
    exact a85RowRuns_ws (fun _ => rfl) (by decide)
  case a85chTWs0Cto0D =>
    exact a85RowRuns_ws (fun _ => rfl) ((isWs_iff_toNat _).2 (by have := block_range hw; omega))
  case a85chTBad01 | a85chTBad08 | a85chTBad0B | a85chTBad21 | a85chTBad3F =>
    exact a85RowRuns_badTerm (fun _ => rfl) (by decide)
  case a85chTBad02to03 | a85chTBad04to07 | a85chTBad0Eto0F | a85chTBad10to1F | a85chTBad22to23 | a85chTBad24to27
      | a85chTBad28to2F | a85chTBad30to37 | a85chTBad38to3B | a85chTBad3Cto3D | a85chTBad40to7F
      | a85chTBad80toFF =>
    exact a85RowRuns_badTerm (fun _ => rfl) (by have := block_range hw; omega)
  case a85chTGt3E =>
    exact ⟨a85Gt, fun _ => rfl, fun _ ht => (a85DecByte_gt ht).symm⟩

/-- Each row of the format, its block read off `wf` (R107). -/
theorem ahxRowRuns_of_encode {i : Instr} {ch : Byte} (hw : i.wf = true) (he : encode i = .ahxch ch) :
    AhxRowRuns i ch := by
  cases i <;> simp only [encode, reduceCtorEq, Enc.ahxch.injEq] at he <;> subst he
  case ahxchWs00 | ahxchWs09 | ahxchWs0A | ahxchWs20 =>
    exact ahxRowRuns_ws (fun _ => rfl) (by decide)
  case ahxchWs0Cto0D =>
    exact ahxRowRuns_ws (fun _ => rfl) ((isWs_iff_toNat _).2 (by have := block_range hw; omega))
  case ahxchHex41 | ahxchHex46 | ahxchHex61 | ahxchHex66 =>
    exact ahxRowRuns_digit (fun _ => rfl) (by decide)
  case ahxchHex30to37 | ahxchHex38to39 | ahxchHex42to43 | ahxchHex44to45 | ahxchHex62to63 | ahxchHex64to65 =>
    exact ahxRowRuns_digit (fun _ => rfl) (by have := block_range hw; omega)
  case ahxchBad01 | ahxchBad08 | ahxchBad0B | ahxchBad21 | ahxchBad3F | ahxchBad40 | ahxchBad47 | ahxchBad60
      | ahxchBad67 =>
    exact ahxRowRuns_badChar (fun _ => rfl) (by decide)
  case ahxchBad02to03 | ahxchBad04to07 | ahxchBad0Eto0F | ahxchBad10to1F | ahxchBad22to23 | ahxchBad24to27
      | ahxchBad28to2F | ahxchBad3Ato3B | ahxchBad3Cto3D | ahxchBad48to4F | ahxchBad50to5F | ahxchBad68to6F
      | ahxchBad70to7F | ahxchBad80toFF =>
    exact ahxRowRuns_badChar (fun _ => rfl) (by have := block_range hw; omega)
  case ahxchGt3E =>
    exact ⟨ahxGt, fun _ => rfl, fun _ => ahxDecByte_gt.symm⟩

theorem exec_a85ch {s : State} {d : A85Dec} {i : Instr} {ch : Byte} (h : A85Decoding s d) (ht : d.tilde = false)
    (hw : i.wf = true) (he : encode i = .a85ch ch) :
    exec i s = .next (applyAnswer Codec.a85Dec (a85DecByte ch d) s) := by
  obtain ⟨rule, hx, hrule⟩ := a85RowRuns_of_encode hw he
  rw [hx, a85Symbol_decoding h ht, hrule d ht]

theorem exec_a85chT {s : State} {d : A85Dec} {i : Instr} {ch : Byte} (h : A85Decoding s d) (ht : d.tilde = true)
    (hw : i.wf = true) (he : encode i = .a85chT ch) :
    exec i s = .next (applyAnswer Codec.a85Dec (a85DecByte ch d) s) := by
  obtain ⟨rule, hx, hrule⟩ := a85RowRuns_of_encodeT hw he
  rw [hx, a85Symbol_decoding h ht, hrule d ht]

theorem exec_ahxch {s : State} {d : AhxDec} {i : Instr} {ch : Byte} (h : AhxDecoding s d) (hw : i.wf = true)
    (he : encode i = .ahxch ch) : exec i s = .next (applyAnswer Codec.ahxDec (ahxDecByte ch d) s) := by
  obtain ⟨rule, hx, hrule⟩ := ahxRowRuns_of_encode hw he
  rw [hx, ahxSymbol_decoding h, hrule d]

/-! ## Whitespace and bad characters in both decoders -/

/-- An answer that leaves the decoder's state, emits nothing and consumes no terminator changes nothing. -/
theorem applyAnswer_same {σ : Type} {wrap : σ → Codec} {s : State} {st : σ} (hc : s.codec = some (wrap st)) :
    applyAnswer wrap (.emit st [] false) s = s := by
  simp [← hc]

/-- Settles O28: the byte rule of whitespace is the answer that changes nothing. -/
theorem whitespaceSkipped : Obligations.WhitespaceSkipped := by
  unfold Obligations.WhitespaceSkipped
  intro s i ch hw hch
  rw [mem_ws_iff] at hch
  refine ⟨fun d h ht he => ?_, fun d h ht he => ?_, fun d h he => ?_⟩
  · rw [exec_a85ch h ht hw he, a85DecByte_ws hch, a85Skip, applyAnswer_same h.2.1]
  · rw [exec_a85chT h ht hw he, a85DecByte_ws hch, a85Skip, applyAnswer_same h.2.1]
  · rw [exec_ahxch h hw he, ahxDecByte_ws hch, ahxSkip, applyAnswer_same h.2.1]

/-- Settles O33: such a byte is the last of the byte rule's cases. -/
theorem badCharactersFault : Obligations.BadCharactersFault := by
  unfold Obligations.BadCharactersFault
  intro s i ch hw hch
  rw [mem_ws_iff] at hch
  refine ⟨fun d h ht he h7E h7A hd => ?_, fun d h he hg hnum hup hlow => ?_⟩
  · rw [exec_a85ch h ht hw he, a85DecByte_badChar ht hch h7E h7A hd]
    rfl
  · rw [exec_ahxch h hw he, ahxDecByte_badChar hch hg (hexval_eq_none hnum hup hlow)]
    rfl

end Sys2Proof.Machine
end

section
/-! # Base-85 groups, symbol by symbol and command by command (R141 to R150) -/

namespace Sys2Proof.Machine

/-! ## The rules of a group -/

theorem a85Digit_joins {ch : Byte} {d : A85Dec} (h : d.dig.length < 4) :
    a85Digit ch d = .emit { d with dig := d.dig ++ [ch.toNat - 33] } [] false := by
  simp only [a85Digit, List.length_append, List.length_singleton]
  rw [if_neg (by omega)]

/-- The fifth digit of a group (R147). -/
theorem a85Digit_completes {ch : Byte} {d : A85Dec} (h : d.dig.length = 4) :
    a85Digit ch d =
      if value85 (d.dig ++ [ch.toNat - 33]) > 0xFFFFFFFF then .raise .a85Overflow (byteSym ch)
      else .emit { d with dig := [] } (be32 (value85 (d.dig ++ [ch.toNat - 33]))) false := by
  simp [a85Digit, h]

theorem a85Gt_nil {d : A85Dec} (h : d.dig = []) : a85Gt d = .emit { dig := [], tilde := false } [] true := by
  simp [a85Gt, h]

theorem a85Gt_partial {d : A85Dec} (h : d.dig ≠ []) :
    a85Gt d =
      if value85 (d.dig ++ List.replicate (5 - d.dig.length) 84) > 0xFFFFFFFF then .raise .a85Overflow 0x03E#12
      else .emit { dig := [], tilde := false }
        ((be32 (value85 (d.dig ++ List.replicate (5 - d.dig.length) 84))).take (d.dig.length - 1)) true := by
  simp [a85Gt, h]

/-! ## Symbols -/

/-- Settles O29: the two branches of the rule of `z`. -/
theorem a85ZeroGroup : Obligations.A85ZeroGroup := by
  unfold Obligations.A85ZeroGroup
  intro s d h ht
  have hx : exec .a85chZ7A s = .next (applyAnswer Codec.a85Dec (a85Z d) s) := a85Symbol_decoding h ht a85Z
  refine ⟨fun hd => ?_, fun hd => ?_⟩
  · rw [hx]
    simp [a85Z, hd, ← h.2.1]
  · rw [hx]
    simp [a85Z, hd]

/-- Settles O30: below five digits a group waits; at five its value is compared with `2^32 - 1`. -/
theorem a85DigitGroup : Obligations.A85DigitGroup := by
  unfold Obligations.A85DigitGroup
  intro s d i ch h ht hw he hlo hhi
  rw [exec_a85ch h ht hw he, a85DecByte_digit ht ⟨hlo, hhi⟩]
  refine ⟨fun hd => ?joins, fun d0 d1 d2 d3 hd => ?completes⟩
  case joins => simp [a85Digit_joins hd]
  case completes =>
    have hfive : d.dig ++ [ch.toNat - 33] = [d0, d1, d2, d3, ch.toNat - 33] := by simp [hd]
    rw [a85Digit_completes (by simp [hd]), hfive, value85_five]
    intro v
    refine ⟨fun hle => ⟨be32 v, be32_length v, beNat_be32 (by omega), ?_⟩, fun hgt => ?_⟩
    · rw [if_neg (by omega)]
      simp [v]
    · rw [if_pos (by omega)]
      rfl

/-- Settles O31: `~` sets the flag, and after it the byte rule leaves no other case. -/
theorem a85TildeAndBadTerminator : Obligations.A85TildeAndBadTerminator := by
  unfold Obligations.A85TildeAndBadTerminator
  intro s d h
  refine ⟨fun ht => ?_, fun i ch ht hw he hch => ?_⟩
  · rw [show exec .a85chTilde7E s = _ from a85Symbol_decoding h ht a85Tilde]
    simp [a85Tilde]
  · have hws : ¬ isWs ch = true := fun hc => hch (List.mem_append_left [0x3E#8] ((mem_ws_iff ch).2 hc))
    have hgt : ch ≠ 0x3E#8 := fun hc => hch (by simp [hc])
    rw [exec_a85chT h ht hw he, a85DecByte_badTerm ht hws hgt]
    rfl

/-- Settles O32: with no digit waiting the stream just ends; else the padded value is compared with `2^32 - 1`. -/
theorem a85TerminatorEndsStream : Obligations.A85TerminatorEndsStream := by
  unfold Obligations.A85TerminatorEndsStream
  intro s d h ht _
  have hx : exec .a85chTGt3E s = .next (applyAnswer Codec.a85Dec (a85Gt d) s) := a85Symbol_decoding h ht a85Gt
  rw [hx]
  refine ⟨fun hd => ?nothingWaits, fun d0 d1 d2 d3 d4 hd hpad => ?padded⟩
  case nothingWaits => simp [a85Gt_nil hd]
  case padded =>
    rw [a85Gt_partial hd, ← hpad, value85_five]
    intro v
    refine ⟨fun hle => ⟨be32 v, be32_length v, beNat_be32 (by omega), ?_⟩, fun hgt => ?_⟩
    · rw [if_neg (by omega)]
      simp [v]
    · rw [if_pos (by omega)]
      rfl

/-! ## The characters of a group -/

theorem beNat_four (b0 b1 b2 b3 : Byte) :
    beNat [b0, b1, b2, b3] = b0.toNat * 2 ^ 24 + b1.toNat * 2 ^ 16 + b2.toNat * 2 ^ 8 + b3.toNat := by
  simp [beNat_cons, Nat.add_assoc]

/-- Four bytes are below the capacity of a base-85 group (R140). -/
theorem beNat_four_lt (b0 b1 b2 b3 : Byte) : beNat [b0, b1, b2, b3] < 85 ^ 5 :=
  (beNat_lt [b0, b1, b2, b3]).trans (by norm_num)

/-- A digit plus 33 fits in a byte. -/
theorem chars85_toNat (v : Nat) : (chars85 v).map BitVec.toNat = (digits85 v).map (· + 33) := by
  rw [chars85, List.map_map]
  refine List.map_congr_left fun d hd => ?_
  have := digits85_lt v d hd
  simp only [Function.comp, BitVec.toNat_ofNat]
  omega

/-- The five digits of a group's value (R140). -/
theorem exists_digits85 {v : Nat} (h : v < 85 ^ 5) :
    ∃ d0 d1 d2 d3 d4, d0 < 85 ∧ d1 < 85 ∧ d2 < 85 ∧ d3 < 85 ∧ d4 < 85 ∧
      v = d0 * 85 ^ 4 + d1 * 85 ^ 3 + d2 * 85 ^ 2 + d3 * 85 + d4 ∧
      (chars85 v).map BitVec.toNat = [d0 + 33, d1 + 33, d2 + 33, d3 + 33, d4 + 33] := by
  have hlt (n : Nat) : n % 85 < 85 := Nat.mod_lt n (by decide)
  have hv := (value85_digits85 h).symm.trans (value85_five _ _ _ _ _)
  exact ⟨_, _, _, _, _, hlt _, hlt _, hlt _, hlt _, hlt _, hv, chars85_toNat v⟩

/-! ## PUSH and FINISH of the text units -/

theorem a85EncByte_joins {b : Byte} {ebuf : List Byte} (h : ebuf.length < 3) :
    a85EncByte b ebuf = (ebuf ++ [b], []) := by
  simp only [a85EncByte, List.length_append, List.length_singleton]
  rw [if_neg (by omega)]

/-- The fourth byte of a group (R141). -/
theorem a85EncByte_completes (b0 b1 b2 b3 : Byte) :
    a85EncByte b3 [b0, b1, b2] =
      ([], if beNat [b0, b1, b2, b3] = 0 then [0x7A#8] else chars85 (beNat [b0, b1, b2, b3])) := rfl

theorem byteStep_a85Enc {s : State} {ebuf : List Byte} (hc : s.codec = some (.a85Enc ebuf)) (b : Byte) :
    byteStep b s =
      emitOut (a85EncByte b ebuf).2 { s with codec := some (.a85Enc (a85EncByte b ebuf).1) } := by
  simp [byteStep, hc]

/-- PUSH of one byte to an A85 encoder. -/
theorem exec_push_a85Enc {s : State} {ebuf : List Byte} {b : Byte} (ha : s.phase = .active)
    (hc : s.codec = some (.a85Enc ebuf)) (hf : PayloadFits s) (hi : s.inp = [b]) :
    exec .push s =
      .next { s with codec := some (.a85Enc (a85EncByte b ebuf).1), inp := [], out := (a85EncByte b ebuf).2,
                     rsp := 0#32 } := by
  have ho : openStream { s with out := [] } = { s with out := [] } := openStream_other fun e he => by
    simp [hc] at he
  have hstep := byteStep_a85Enc (s := { s with out := [] }) hc b
  rw [show exec .push s = execPush s from rfl, execPush_active ha hc hf, pushActive_one ha hi ho, hstep]
  simp only [emitOut_phase, ha, if_true]
  rfl

/-- Settles O34: the two cases of the encoder's byte rule, the characters of a group by `exists_digits85`. -/
theorem a85EncodeGroup : Obligations.A85EncodeGroup := by
  unfold Obligations.A85EncodeGroup
  intro s ebuf b ha hc hf hi
  rw [exec_push_a85Enc ha hc hf hi]
  refine ⟨fun hlen => ?joins, fun b0 b1 b2 hbuf => ?completes⟩
  case joins => rw [a85EncByte_joins hlen]
  case completes =>
    subst hbuf
    rw [a85EncByte_completes, ← beNat_four]
    intro v
    refine ⟨_, rfl, fun hv => if_pos hv, fun hv => ?_⟩
    rw [if_neg hv]
    exact exists_digits85 (beNat_four_lt b0 b1 b2 b)

/-- FINISH whose end-of-stream rules do not fault (R133). -/
theorem exec_finish_done {s t : State} {c : Codec} (ha : s.phase = .active) (hc : s.codec = some c)
    (ht : finishStages { s with out := [] } = t) (hta : t.phase = .active) :
    exec .finish s = .next { t with codec := none, rows := none, phase := .done, rsp := 0#32 } := by
  rw [show exec .finish s = execFinish s from rfl, execFinish_active ha hc, finishActive]
  simp only [ht, if_pos hta]
  rfl

/-- FINISH whose end-of-stream rules fault (R133, R268). -/
theorem exec_finish_faulted {s : State} {c : Codec} {cause : Cause} {sym : Code} (ha : s.phase = .active)
    (hc : s.codec = some c)
    (ht : finishStages { s with out := [] } = faultEntry cause sym { s with out := [] }) :
    exec .finish s = .next (faultEntry cause sym s) := by
  rw [show exec .finish s = execFinish s from rfl, execFinish_active ha hc, finishActive]
  simp only [ht, faultEntry_phase, reduceCtorEq, if_false]
  rfl

/-- A partial group at FINISH (R142). -/
theorem a85EncFinish_partial {ebuf : List Byte} (h : ebuf ≠ []) :
    a85EncFinish ebuf =
      (chars85 (beNat (ebuf ++ List.replicate (4 - ebuf.length) 0#8))).take (ebuf.length + 1) ++
        [0x7E#8, 0x3E#8] := by
  simp [a85EncFinish, h]

/-- Settles O35: FINISH emits what the encoder's rule says; the characters of the padded group by
`exists_digits85`. -/
theorem textEncodersFinish : Obligations.TextEncodersFinish := by
  unfold Obligations.TextEncodersFinish
  intro s ha
  refine ⟨fun ebuf hc _ => ?a85, fun hc => ?ahx⟩
  case a85 =>
    have hx := exec_finish_done ha hc
      (show _ = emitOut (a85EncFinish ebuf) { s with out := [] } by simp [finishStages, hc]) ha
    rw [hx]
    by_cases hn : ebuf = []
    · subst hn
      exact ⟨[], rfl, fun _ => rfl, fun _ _ _ _ h => absurd rfl h⟩
    · refine ⟨_, by rw [a85EncFinish_partial hn]; rfl, fun h => absurd h hn, fun b0 b1 b2 b3 _ hpad => ?_⟩
      rw [← hpad, List.map_take, ← beNat_four]
      obtain ⟨d0, d1, d2, d3, d4, h0, h1, h2, h3, h4, hv, hchars⟩ := exists_digits85 (beNat_four_lt b0 b1 b2 b3)
      exact ⟨d0, d1, d2, d3, d4, h0, h1, h2, h3, h4, hv, by rw [hchars]⟩
  case ahx =>
    rw [exec_finish_done ha hc
      (show _ = emitOut ahxEncFinish { s with out := [] } by simp [finishStages, hc]) ha]
    rfl

theorem a85DecFinish_missing {s : State} (hf : s.fin = false) :
    a85DecFinish s = faultEntry .a85NoTerm 0#12 s := by
  simp [a85DecFinish, hf]

/-- A waiting digit is reported before the missing terminator (R167). -/
theorem ahxDecFinish_missing {s : State} (d : AhxDec) (hf : s.fin = false) :
    ahxDecFinish d s = faultEntry (if d.waiting then .ahxOddNibble else .ahxNoTerm) 0#12 s := by
  cases hw : d.waiting <;> simp [ahxDecFinish, hf, hw]

/-- Bits waiting are reported before the missing EOD (R186). -/
theorem lzwDecFinish_missing {s : State} (d : LzwDec) (hf : s.fin = false) :
    lzwDecFinish d s = faultEntry (if 0 < d.nbits then .lzwTrunc else .lzwNoEod) 0#12 s := by
  by_cases hn : 0 < d.nbits <;> simp [lzwDecFinish, hf, hn]

/-- A fault of the first stage ends the transaction (R251, R252). -/
theorem unlessFaulted_faultEntry (f : State → State) (cause : Cause) (sym : Code) (s : State) :
    unlessFaulted f (faultEntry cause sym s) = faultEntry cause sym s := rfl

/-- FINISH of a decoder that has seen its terminator, with no predictor behind it, does nothing (R150, R167, R186). -/
theorem finishStages_ended {s : State} (hf : s.fin = true)
    (hdec : (∃ d, s.codec = some (.a85Dec d)) ∨ (∃ d, s.codec = some (.ahxDec d)) ∨
      ((∃ d, s.codec = some (.lzwDec d)) ∧ s.chain = false)) :
    finishStages s = s := by
  obtain ⟨d, hc⟩ | ⟨d, hc⟩ | ⟨⟨d, hc⟩, hch⟩ := hdec
  · simp [finishStages, hc, a85DecFinish, hf]
  · simp [finishStages, hc, ahxDecFinish, hf]
  · simp [finishStages, hc, hch, lzwDecFinish, hf]

/-- Settles O36: each decoder's rule at FINISH, without its terminator and with it. -/
theorem decodersDemandTerminator : Obligations.DecodersDemandTerminator := by
  unfold Obligations.DecodersDemandTerminator
  intro s ha
  refine ⟨fun d hc hf => ?a85, fun d hc hf => ?ahx, fun d hc hf => ?lzw, fun hf hdec => ?ended⟩
  case a85 =>
    refine exec_finish_faulted ha hc ?_
    simp only [finishStages, hc, a85DecFinish_missing, hf]
  case ahx =>
    refine exec_finish_faulted ha hc ?_
    simp only [finishStages, hc, ahxDecFinish_missing, hf]
  case lzw =>
    refine exec_finish_faulted ha hc ?_
    simp only [finishStages, hc, lzwDecFinish_missing, hf, unlessFaulted_faultEntry, ite_self]
  case ended =>
    obtain ⟨c, hc⟩ : ∃ c, s.codec = some c := by
      obtain ⟨d, hc⟩ | ⟨d, hc⟩ | ⟨⟨d, hc⟩, -⟩ := hdec <;> exact ⟨_, hc⟩
    exact exec_finish_done ha hc (finishStages_ended (s := { s with out := [] }) hf hdec) ha

end Sys2Proof.Machine
end

section
/-! # The A85 round trip (R152)

The encoder and the decoder are followed group by group: PUSH of four bytes makes the encoder emit the characters of
their group and leaves it between groups, and PUSH of these characters makes the decoder emit the four bytes and leaves
it between groups. The final 0 to 3 bytes go through FINISH, and come back through the padding rule of `>`. -/

namespace Sys2Proof.Machine

/-! ## An invocation, from the whole input in one transaction -/

/-- The transaction an invocation's input runs in: START has passed its checks and nothing has been emitted. -/
def started (unit : CodecUnit) (dir : Direction) (s : State) : State :=
  transactionStart (startWith unit dir (createdCodec unit dir) (present [] [] s))

section
variable {unit : CodecUnit} {dir : Direction} {s : State}

theorem started_eq (h : startChecks s.cfg unit dir (latchOf s) = true) :
    started unit dir s =
      { startLatch unit dir s with
        codec := some (createdCodec unit dir (latchOf s)), rows := startRows unit (latchOf s), phase := .active
        rsp := okWord, inp := [], out := [], port := [] } := by
  have hp : startChecks (present [] [] s).cfg unit dir (latchOf (present [] [] s)) = true := h
  rw [started, startWith_cases, if_pos hp]
  rfl

theorem started_out : (started unit dir s).out = [] := rfl

/-- Only an LZW encoder owes an opening CLEAR (R188). -/
theorem opened_of_codec {c : Codec} (hs : s.codec = some c) (hc : ∀ e, c ≠ .lzwEnc e) : Opened s :=
  fun e he => absurd (Option.some.inj (hs.symm.trans he)) (hc e)

/-- What the whole input makes of a started unit that owes no opening CLEAR is what the invocation codes, however the
input is cut (R66). -/
theorem codes_of_started {b out : List Byte} (h : startChecks s.cfg unit dir (latchOf s) = true)
    (ho : Opened (started unit dir s))
    (hrun : answerOf (unlessFaulted finishStages (pushBytes b (started unit dir s))) = (okWord, out)) :
    Codes unit dir s b out := by
  rintro chunks rfl hfit
  have hwhole : wholeInput chunks.flatten (startWith unit dir (createdCodec unit dir) (present [] [] s)) =
      unlessFaulted finishStages (pushBytes chunks.flatten (started unit dir s)) := by
    rw [wholeInput, pushed, ← started, ho.openStream_eq]
  have hout : (startWith unit dir (createdCodec unit dir) (present [] [] s)).out = [] := by
    rw [startWith_cases]
    split <;> rfl
  rw [outcome_eq_invocationAnswer unit dir hfit, invocationAnswer]
  simp [h, hwhole, hrun, hout, withSent]
end

/-- The parameter registers are no concern of the text units (R33). -/
theorem startChecks_a85 (cfg : Config) (dir : Direction) (l : Latches) : startChecks cfg .a85 dir l = true := rfl

/-! ## Replacing the codec state -/

/-- `s` with another codec state. -/
def atCodec (c : Codec) (s : State) : State := { s with codec := some c }

section
variable (c : Codec) (s : State)

@[simp] theorem atCodec_phase : (atCodec c s).phase = s.phase := rfl
@[simp] theorem atCodec_codec : (atCodec c s).codec = some c := rfl
@[simp] theorem atCodec_fin : (atCodec c s).fin = s.fin := rfl
@[simp] theorem atCodec_out : (atCodec c s).out = s.out := rfl
@[simp] theorem atCodec_atCodec (c' : Codec) : atCodec c (atCodec c' s) = atCodec c s := rfl
end

theorem atCodec_self {c : Codec} {s : State} (h : s.codec = some c) : atCodec c s = s := by
  rw [atCodec, ← h]

@[simp] theorem emitOut_nil (s : State) : emitOut [] s = s := by simp [emitOut]

theorem pushBytes_cons {s : State} (h : s.phase = .active) (b : Byte) (bs : List Byte) :
    pushBytes (b :: bs) s = pushBytes bs (byteStep b s) := if_pos h

/-- An answer that consumes no terminator. -/
theorem applyAnswer_goesOn {σ : Type} (wrap : σ → Codec) (st : σ) (bytes : List Byte) (s : State) :
    applyAnswer wrap (.emit st bytes false) s = emitOut bytes (atCodec (wrap st) s) := by
  simp [emitOut, atCodec]

/-! ## The text of a byte sequence -/

/-- The characters of a complete group (R141). -/
def a85Group (v : Nat) : List Byte := if v = 0 then [0x7A#8] else chars85 v

/-- The text of a byte sequence before its terminator: complete groups, then the characters of the partial one. -/
def a85Text : List Byte → List Byte
  | b0 :: b1 :: b2 :: b3 :: rest => a85Group (beNat [b0, b1, b2, b3]) ++ a85Text rest
  | [] => []
  | last => (chars85 (beNat (last ++ List.replicate (4 - last.length) 0#8))).take (last.length + 1)

theorem a85Text_group (b0 b1 b2 b3 : Byte) (rest : List Byte) :
    a85Text (b0 :: b1 :: b2 :: b3 :: rest) = a85Group (beNat [b0, b1, b2, b3]) ++ a85Text rest := by
  rw [a85Text]

/-- At FINISH the encoder writes the text of the bytes that wait, and the terminator (R142). -/
theorem a85EncFinish_eq_text {last : List Byte} (h : last.length ≤ 3) :
    a85EncFinish last = a85Text last ++ [0x7E#8, 0x3E#8] := by
  match last, h with
  | [], _ => rfl
  | [_], _ => rfl
  | [_, _], _ => rfl
  | [_, _, _], _ => rfl

/-- Induction over a byte sequence in groups of four. -/
theorem groups_induction {P : List Byte → Prop} (last : ∀ bs, bs.length ≤ 3 → P bs)
    (group : ∀ b0 b1 b2 b3 rest, P rest → P (b0 :: b1 :: b2 :: b3 :: rest)) : ∀ bs, P bs
  | b0 :: b1 :: b2 :: b3 :: rest => group b0 b1 b2 b3 rest (groups_induction last group rest)
  | [] => last [] (by simp)
  | [b0] => last [b0] (by simp)
  | [b0, b1] => last [b0, b1] (by simp)
  | [b0, b1, b2] => last [b0, b1, b2] (by simp)

/-! ### Its characters -/

/-- A character of base-85 text other than those of the terminator: a digit or `z`. -/
def IsA85Char (ch : Byte) : Prop := 0x21 ≤ ch.toNat ∧ ch.toNat ≤ 0x75 ∨ ch = 0x7A#8

theorem chars85_range (v : Nat) : ∀ ch ∈ chars85 v, 0x21 ≤ ch.toNat ∧ ch.toNat ≤ 0x75 := by
  intro ch hch
  obtain ⟨d, hd, rfl⟩ := List.mem_map.1 hch
  have := digits85_lt v d hd
  rw [BitVec.toNat_ofNat]
  omega

theorem a85Group_chars (v : Nat) : ∀ ch ∈ a85Group v, IsA85Char ch := by
  intro ch hch
  unfold a85Group at hch
  split at hch
  · exact .inr (List.mem_singleton.1 hch)
  · exact .inl (chars85_range v ch hch)

theorem a85Text_last {last : List Byte} (h : last ≠ []) (hlen : last.length ≤ 3) :
    a85Text last = (chars85 (beNat (last ++ List.replicate (4 - last.length) 0#8))).take (last.length + 1) :=
  List.append_cancel_right ((a85EncFinish_eq_text hlen).symm.trans (a85EncFinish_partial h))

theorem a85Text_chars (b : List Byte) : ∀ ch ∈ a85Text b, IsA85Char ch := by
  induction b using groups_induction with
  | last bs hlen =>
    intro ch hch
    by_cases hn : bs = []
    · subst hn
      cases hch
    · rw [a85Text_last hn hlen] at hch
      exact .inl (chars85_range _ ch (List.mem_of_mem_take hch))
  | group b0 b1 b2 b3 rest ih =>
    intro ch hch
    rw [a85Text_group, List.mem_append] at hch
    exact hch.elim (a85Group_chars _ ch) (ih ch)

/-- Such a character is neither `~` nor whitespace (R152). -/
theorem IsA85Char.plain {ch : Byte} (h : IsA85Char ch) :
    ch ≠ 0x7E#8 ∧ ch ∉ [0x00#8, 0x09#8, 0x0A#8, 0x0C#8, 0x0D#8, 0x20#8] := by
  rw [mem_ws_iff, isWs_iff_toNat]
  obtain h | rfl := h
  · refine ⟨?_, by omega⟩
    rintro rfl
    exact absurd h.2 (by decide)
  · decide

/-! ## Encoding, group by group -/

/-- The A85 encoder is at work with these bytes waiting. -/
def A85Encoding (s : State) (ebuf : List Byte) : Prop := s.phase = .active ∧ s.codec = some (.a85Enc ebuf)

theorem A85Encoding.atCodec {s : State} {ebuf : List Byte} (h : A85Encoding s ebuf) (ebuf' : List Byte) :
    A85Encoding (atCodec (.a85Enc ebuf') s) ebuf' := ⟨h.1, rfl⟩

theorem byteStep_a85Enc_joins {s : State} {ebuf : List Byte} (h : A85Encoding s ebuf)
    (hlen : ebuf.length < 3) (b : Byte) : byteStep b s = atCodec (.a85Enc (ebuf ++ [b])) s := by
  rw [byteStep_a85Enc h.2, a85EncByte_joins hlen]
  exact emitOut_nil _

/-- Bytes that leave the group short only wait (R141). -/
theorem pushBytes_a85Enc_joins {s : State} {ebuf bs : List Byte} (h : A85Encoding s ebuf)
    (hlen : ebuf.length + bs.length ≤ 3) : pushBytes bs s = atCodec (.a85Enc (ebuf ++ bs)) s := by
  induction bs generalizing s ebuf with
  | nil => rw [List.append_nil, atCodec_self h.2, pushBytes_nil]
  | cons b bs ih =>
    rw [List.length_cons] at hlen
    have hlen' : (ebuf ++ [b]).length + bs.length ≤ 3 := by
      rw [List.length_append, List.length_singleton]
      omega
    rw [pushBytes_cons h.1, byteStep_a85Enc_joins h (by omega), ih (h.atCodec _) hlen', atCodec_atCodec,
      List.append_assoc, List.singleton_append]

/-- Four bytes leave the encoder between groups, the characters of their group emitted (R141). -/
theorem pushBytes_a85Enc_group {s : State} (h : A85Encoding s []) (b0 b1 b2 b3 : Byte) :
    pushBytes [b0, b1, b2, b3] s = emitOut (a85Group (beNat [b0, b1, b2, b3])) s := by
  have hthree : pushBytes [b0, b1, b2] s = atCodec (.a85Enc [b0, b1, b2]) s := pushBytes_a85Enc_joins h (by simp)
  calc pushBytes ([b0, b1, b2] ++ [b3]) s
      = pushBytes [b3] (atCodec (.a85Enc [b0, b1, b2]) s) := by rw [pushBytes_append, hthree]
    _ = byteStep b3 (atCodec (.a85Enc [b0, b1, b2]) s) := pushBytes_cons (h.atCodec _).1 b3 []
    _ = emitOut (a85Group (beNat [b0, b1, b2, b3])) (atCodec (.a85Enc []) s) :=
        byteStep_a85Enc (h.atCodec _).2 b3
    _ = emitOut (a85Group (beNat [b0, b1, b2, b3])) s := by rw [atCodec_self h.2]

/-- The whole input to an A85 encoder between groups: its text and the terminator are emitted. -/
theorem answerOf_a85Enc (b : List Byte) {s : State} (h : A85Encoding s []) :
    answerOf (unlessFaulted finishStages (pushBytes b s)) =
      (okWord, s.out ++ (a85Text b ++ [0x7E#8, 0x3E#8])) := by
  induction b using groups_induction generalizing s with
  | last bs hlen =>
    rw [pushBytes_a85Enc_joins h (by simpa using hlen)]
    simp [unlessFaulted, h.1, finishStages, answerOf, a85EncFinish_eq_text hlen]
  | group b0 b1 b2 b3 rest ih =>
    rw [show b0 :: b1 :: b2 :: b3 :: rest = [b0, b1, b2, b3] ++ rest from rfl, pushBytes_append,
      pushBytes_a85Enc_group h, ih (s := emitOut _ s) h, emitOut_out]
    simp [a85Text_group]

/-! ## Decoding, group by group -/

/-- Between groups, before the terminator. -/
def betweenGroups : A85Dec := { dig := [], tilde := false }

theorem A85Decoding.atCodec {s : State} {d : A85Dec} (h : A85Decoding s d) (d' : A85Dec) :
    A85Decoding (atCodec (.a85Dec d') s) d' := ⟨h.1, rfl, h.2.2⟩

/-- A digit that leaves the group short only waits (R147). -/
theorem byteStep_a85Dec_joins {s : State} {ds : List Nat} {ch : Byte}
    (h : A85Decoding s { dig := ds, tilde := false }) (hch : 0x21 ≤ ch.toNat ∧ ch.toNat ≤ 0x75)
    (hlen : ds.length < 4) :
    byteStep ch s = atCodec (.a85Dec { dig := ds ++ [ch.toNat - 33], tilde := false }) s := by
  rw [byteStep_a85Dec h, a85DecByte_digit rfl hch, a85Digit_joins hlen, applyAnswer_goesOn, emitOut_nil]

theorem pushBytes_a85Dec_joins {s : State} {ds : List Nat} {cs : List Byte}
    (h : A85Decoding s { dig := ds, tilde := false }) (hcs : ∀ ch ∈ cs, 0x21 ≤ ch.toNat ∧ ch.toNat ≤ 0x75)
    (hlen : ds.length + cs.length ≤ 4) :
    pushBytes cs s =
      atCodec (.a85Dec { dig := ds ++ cs.map fun ch => ch.toNat - 33, tilde := false }) s := by
  induction cs generalizing s ds with
  | nil => rw [List.map_nil, List.append_nil, atCodec_self h.2.1, pushBytes_nil]
  | cons ch cs ih =>
    rw [List.length_cons] at hlen
    have hlen' : (ds ++ [ch.toNat - 33]).length + cs.length ≤ 4 := by
      rw [List.length_append, List.length_singleton]
      omega
    rw [pushBytes_cons h.1, byteStep_a85Dec_joins h (hcs ch List.mem_cons_self) (by omega),
      ih (h.atCodec _) (fun c hc => hcs c (List.mem_cons_of_mem ch hc)) hlen', atCodec_atCodec,
      List.append_assoc, List.map_cons, List.singleton_append]

/-- The first characters of a value leave its first digits waiting. -/
theorem pushBytes_take_chars85 {s : State} (h : A85Decoding s betweenGroups) (v : Nat) {m : Nat} (hm : m ≤ 4) :
    pushBytes ((chars85 v).take m) s =
      atCodec (.a85Dec { dig := (digits85 v).take m, tilde := false }) s := by
  rw [pushBytes_a85Dec_joins h (fun ch hch => chars85_range v ch (List.mem_of_mem_take hch))
    (by simpa using hm), List.map_take, chars85_sub, List.nil_append]

/-- The five characters of a value below `2^32` leave the decoder between groups, the value's bytes emitted (R147). -/
theorem pushBytes_chars85 {s : State} {v : Nat} (h : A85Decoding s betweenGroups) (hv : v < 2 ^ 32) :
    pushBytes (chars85 v) s = emitOut (be32 v) s := by
  have hlow : (BitVec.ofNat 8 (v % 85 + 33)).toNat = v % 85 + 33 := by
    rw [BitVec.toNat_ofNat]
    omega
  have hdig : (digits85 v).take 4 ++ [v % 85 + 33 - 33] = digits85 v := rfl
  rw [show chars85 v = (chars85 v).take 4 ++ [BitVec.ofNat 8 (v % 85 + 33)] from rfl, pushBytes_append,
    pushBytes_take_chars85 h v le_rfl, pushBytes_cons (h.atCodec _).1, byteStep_a85Dec (h.atCodec _),
    a85DecByte_digit rfl (by omega), a85Digit_completes rfl, hlow, hdig, value85_digits85 (by omega),
    if_neg (by omega), applyAnswer_goesOn, atCodec_atCodec, pushBytes_nil]
  exact congrArg _ (atCodec_self h.2.1)

theorem beNat_lt_of_length {bs : List Byte} (h : bs.length = 4) : beNat bs < 2 ^ 32 :=
  (beNat_lt bs).trans_eq (by rw [h]; norm_num)

/-- The characters of a group give its four bytes back. -/
theorem pushBytes_a85Group {s : State} (h : A85Decoding s betweenGroups) (b0 b1 b2 b3 : Byte) :
    pushBytes (a85Group (beNat [b0, b1, b2, b3])) s = emitOut [b0, b1, b2, b3] s := by
  unfold a85Group
  split
  next hzero =>
    have hbytes : [b0, b1, b2, b3] = [0#8, 0#8, 0#8, 0#8] :=
      (be32_beNat b0 b1 b2 b3).symm.trans ((congrArg be32 hzero).trans (by decide))
    rw [pushBytes_cons h.1, byteStep_a85Dec h, a85DecByte_z rfl, hbytes]
    exact (applyAnswer_goesOn _ _ _ _).trans (congrArg _ (atCodec_self h.2.1))
  next => rw [pushBytes_chars85 h (beNat_lt_of_length rfl), be32_beNat]

/-! ### The final group -/

@[simp] theorem beNat_zeros (k : Nat) : beNat (List.replicate k 0#8) = 0 := by
  induction k with
  | zero => rfl
  | succ k ih => rw [List.replicate_succ, beNat_cons, ih, BitVec.toNat_ofNat, Nat.zero_mod, Nat.zero_mul]

/-- The first digits of a value are the value without its low digits (R140). -/
theorem value85_take_digits85 {v k : Nat} (hv : v < 2 ^ 32) (hk : k = 1 ∨ k = 2 ∨ k = 3) :
    value85 ((digits85 v).take (5 - k)) = v / 85 ^ k := by
  have h2 : v / 85 ^ 2 = v / 85 / 85 := by rw [Nat.div_div_eq_div_mul]; rfl
  have h3 : v / 85 ^ 3 = v / 85 ^ 2 / 85 := by rw [Nat.div_div_eq_div_mul]; rfl
  have h4 : v / 85 ^ 4 = v / 85 ^ 3 / 85 := by rw [Nat.div_div_eq_div_mul]; rfl
  obtain rfl | rfl | rfl := hk
  all_goals
    simp only [digits85, value85, List.take, List.foldl_cons, List.foldl_nil]
    omega

theorem value85_snoc (ds : List Nat) (d : Nat) : value85 (ds ++ [d]) = value85 ds * 85 + d := by
  simp [value85]

/-- Padding with 84s sets the low digits to their greatest value (R149). -/
theorem value85_pad (ds : List Nat) (k : Nat) :
    value85 (ds ++ List.replicate k 84) + 1 = (value85 ds + 1) * 85 ^ k := by
  induction k with
  | zero => simp
  | succ k ih =>
    rw [List.replicate_succ', ← List.append_assoc, value85_snoc, pow_succ, ← Nat.mul_assoc, ← ih]
    omega

/-- Of a value whose last `k` bytes are 0 the last `k` digits may be replaced by 84s: that adds less than `85 ^ k`, so
the other bytes stand (R142, R149). -/
theorem padded_value {v k : Nat} (hv : v < 2 ^ 32) (hk : k = 1 ∨ k = 2 ∨ k = 3) (hz : v % 256 ^ k = 0) :
    value85 ((digits85 v).take (5 - k) ++ List.replicate k 84) < 2 ^ 32 ∧
    value85 ((digits85 v).take (5 - k) ++ List.replicate k 84) / 256 ^ k = v / 256 ^ k := by
  have hpad := value85_pad ((digits85 v).take (5 - k)) k
  rw [value85_take_digits85 hv hk] at hpad
  obtain rfl | rfl | rfl := hk <;> omega

/-- The first bytes of a number depend on its high part only. -/
theorem take_be32_congr {v w k : Nat} (hk : k = 1 ∨ k = 2 ∨ k = 3) (h : v / 256 ^ k = w / 256 ^ k) :
    (be32 v).take (4 - k) = (be32 w).take (4 - k) := by
  have h24 : v / 2 ^ 24 = w / 2 ^ 24 := by obtain rfl | rfl | rfl := hk <;> omega
  obtain rfl | rfl | rfl := hk
  · simp only [be32, List.take, h24, show v / 2 ^ 16 = w / 2 ^ 16 by omega, show v / 2 ^ 8 = w / 2 ^ 8 by omega]
  · simp only [be32, List.take, h24, show v / 2 ^ 16 = w / 2 ^ 16 by omega]
  · simp only [be32, List.take, h24]

theorem be32_beNat_of_length {bs : List Byte} (h : bs.length = 4) : be32 (beNat bs) = bs := by
  match bs, h with
  | [b0, b1, b2, b3], _ => exact be32_beNat b0 b1 b2 b3

/-- `>` after the first `5 - k` characters of `4 - k` bytes padded with zero bytes gives the bytes back (R142, R149). -/
theorem a85Gt_padded {last : List Byte} {k : Nat} (hk : k = 1 ∨ k = 2 ∨ k = 3) (hlen : last.length + k = 4) :
    a85Gt { dig := (digits85 (beNat (last ++ List.replicate k 0#8))).take (5 - k), tilde := true } =
      .emit betweenGroups last true := by
  have hlen4 : (last ++ List.replicate k 0#8).length = 4 := by simpa using hlen
  have hbytes : (be32 (beNat (last ++ List.replicate k 0#8))).take (4 - k) = last := by
    rw [be32_beNat_of_length hlen4]
    exact List.take_left' (by omega)
  have hzero : beNat (last ++ List.replicate k 0#8) % 256 ^ k = 0 := by
    rw [beNat_append, beNat_zeros, List.length_replicate, Nat.add_zero, Nat.mul_mod_left]
  have hlt : beNat (last ++ List.replicate k 0#8) < 2 ^ 32 := beNat_lt_of_length hlen4
  generalize beNat (last ++ List.replicate k 0#8) = v at hbytes hzero hlt ⊢
  obtain ⟨hpad, hdiv⟩ := padded_value hlt hk hzero
  have hwait : ((digits85 v).take (5 - k)).length = 5 - k := by
    rw [List.length_take, digits85_length]
    omega
  have hne : (digits85 v).take (5 - k) ≠ [] := List.ne_nil_of_length_pos (by omega)
  rw [a85Gt_partial hne]
  dsimp only
  rw [hwait, show 5 - (5 - k) = k by omega, show 5 - k - 1 = 4 - k by omega, if_neg (by omega),
    take_be32_congr hk hdiv, hbytes]
  rfl

/-! ### The terminator -/

/-- `~>` after a group that `>` completes to `bytes`, and FINISH (R148, R149, R150). -/
theorem answerOf_terminator {s : State} {ds : List Nat} {bytes : List Byte}
    (h : A85Decoding s { dig := ds, tilde := false })
    (hgt : a85Gt { dig := ds, tilde := true } = .emit betweenGroups bytes true) :
    answerOf (unlessFaulted finishStages (pushBytes [0x7E#8, 0x3E#8] s)) = (okWord, s.out ++ bytes) := by
  have htilde : byteStep 0x7E#8 s = atCodec (.a85Dec { dig := ds, tilde := true }) s := by
    rw [byteStep_a85Dec h, a85DecByte_tilde rfl, a85Tilde, applyAnswer_goesOn, emitOut_nil]
  have hend := h.atCodec { dig := ds, tilde := true }
  have hstep : pushBytes [0x7E#8, 0x3E#8] s =
      { s with codec := some (.a85Dec betweenGroups), fin := true, out := s.out ++ bytes } := by
    rw [pushBytes_cons h.1, htilde, pushBytes_cons hend.1, byteStep_a85Dec hend, a85DecByte_gt rfl, hgt]
    simp [atCodec]
  simp [hstep, unlessFaulted, h.1, finishStages, a85DecFinish, answerOf]

/-- The final group and the terminator, from a decoder between groups. -/
theorem answerOf_a85Text_last {s : State} {last : List Byte} (h : A85Decoding s betweenGroups)
    (hlen : last.length ≤ 3) :
    answerOf (unlessFaulted finishStages (pushBytes (a85Text last ++ [0x7E#8, 0x3E#8]) s)) =
      (okWord, s.out ++ last) := by
  by_cases hn : last = []
  · subst hn
    exact answerOf_terminator h rfl
  · have hpos := List.length_pos_iff.2 hn
    have hgt := a85Gt_padded (last := last) (k := 4 - last.length) (by omega) (by omega)
    rw [show 5 - (4 - last.length) = last.length + 1 by omega] at hgt
    rw [a85Text_last hn hlen, pushBytes_append, pushBytes_take_chars85 h _ (by omega),
      answerOf_terminator (h.atCodec _) hgt]
    rfl

/-- The text of a byte sequence and the terminator, from a decoder between groups: the bytes come back. -/
theorem answerOf_a85Dec (b : List Byte) {s : State} (h : A85Decoding s betweenGroups) :
    answerOf (unlessFaulted finishStages (pushBytes (a85Text b ++ [0x7E#8, 0x3E#8]) s)) = (okWord, s.out ++ b) := by
  induction b using groups_induction generalizing s with
  | last bs hlen => exact answerOf_a85Text_last h hlen
  | group b0 b1 b2 b3 rest ih =>
    rw [a85Text_group, List.append_assoc, pushBytes_append, pushBytes_a85Group h, ih (s := emitOut _ s) h,
      emitOut_out, List.append_assoc]
    rfl

/-! ## The round trip -/

/-- Settles O37: the text of `a85Text`, in both directions. -/
theorem a85RoundTrip : Obligations.A85RoundTrip := by
  unfold Obligations.A85RoundTrip
  intro s b
  refine ⟨a85Text b, ?encode, fun ch hch => (a85Text_chars b ch hch).plain, ?decode⟩
  case encode =>
    have hcheck := startChecks_a85 s.cfg .enc (latchOf s)
    have hstart : A85Encoding (started .a85 .enc s) [] := by
      rw [started_eq hcheck]
      exact ⟨rfl, rfl⟩
    refine codes_of_started hcheck (opened_of_codec hstart.2 fun _ => Codec.noConfusion) ?_
    rw [answerOf_a85Enc b hstart, started_out, List.nil_append]
  case decode =>
    have hcheck := startChecks_a85 s.cfg .dec (latchOf s)
    have hstart : A85Decoding (started .a85 .dec s) betweenGroups := by
      rw [started_eq hcheck]
      exact ⟨rfl, rfl, rfl⟩
    refine codes_of_started hcheck (opened_of_codec hstart.2.1 fun _ => Codec.noConfusion) ?_
    rw [answerOf_a85Dec b hstart, started_out, List.nil_append]

end Sys2Proof.Machine
end

section
/-! # Base-16 text (R160 to R168)

`hexval` decides a byte for the AHX decoder: a byte it is defined on is neither whitespace nor `>`. The encoder keeps no
state, so a PUSH emits the text of its payload, and the two digits of a byte take the decoder from one place between
pairs to the next, the byte emitted. -/

namespace Sys2Proof.Machine

/-! ## Hex digits -/

/-- `hexval`, its three ranges at once (R98, R160). -/
theorem hexval_eq_ofNat {ch : Byte} {v : Nat}
    (h : 0x30 ≤ ch.toNat ∧ ch.toNat ≤ 0x39 ∧ v = ch.toNat - 0x30 ∨
      0x41 ≤ ch.toNat ∧ ch.toNat ≤ 0x46 ∧ v = ch.toNat - 0x41 + 10 ∨
      0x61 ≤ ch.toNat ∧ ch.toNat ≤ 0x66 ∧ v = ch.toNat - 0x61 + 10) :
    hexval ch = some (BitVec.ofNat 4 v) := by
  obtain ⟨hlo, hhi, rfl⟩ | ⟨hlo, hhi, rfl⟩ | ⟨hlo, hhi, rfl⟩ := h
  · rw [hexval, if_pos ⟨hlo, hhi⟩]
  · rw [hexval, if_neg (by omega), if_pos ⟨hlo, hhi⟩]
  · rw [hexval, if_neg (by omega), if_neg (by omega), if_pos ⟨hlo, hhi⟩]

/-- A hex digit is neither `>` nor whitespace (R98). -/
theorem plain_of_hexval {ch : Byte} {v : BitVec 4} (h : hexval ch = some v) :
    ch ≠ 0x3E#8 ∧ ¬ isWs ch = true := by
  constructor
  · rintro rfl
    exact absurd h (by simp [hexval])
  · intro hws
    rw [isWs_iff_toNat] at hws
    rw [hexval_eq_none (by omega) (by omega) (by omega)] at h
    cases h

/-- `hexchar` by its number (R160). -/
theorem hexchar_eq_ofNat (n : BitVec 4) (up : Bool) :
    hexchar n up = BitVec.ofNat 8
      (if n.toNat ≤ 9 then 0x30 + n.toNat else if up then 0x41 + (n.toNat - 10) else 0x61 + (n.toNat - 10)) := by
  unfold hexchar
  split
  · rfl
  next hn =>
    rw [Nat.add_sub_assoc (by omega), Nat.add_sub_assoc (by omega)]
    split <;> rfl

/-- Two nibbles as the number of their byte, high nibble first. -/
theorem nibbles_eq_ofNat (hi lo : BitVec 4) : hi ++ lo = BitVec.ofNat 8 (hi.toNat * 16 + lo.toNat) := by
  refine BitVec.eq_of_toNat_eq ?_
  rw [BitVec.toNat_append, ← Nat.shiftLeft_add_eq_or_of_lt lo.isLt, Nat.shiftLeft_eq, BitVec.toNat_ofNat]
  omega

/-! ## The rules of a digit and of the terminator -/

/-- No digit waits (R39). -/
def betweenPairs : AhxDec := { waiting := false, hi := 0#4 }

section
variable {d : AhxDec}

theorem ahxDecByte_hex {ch : Byte} {v : BitVec 4} (h : hexval ch = some v) : ahxDecByte ch d = ahxHex v d := by
  obtain ⟨hgt, hws⟩ := plain_of_hexval h
  rw [ahxDecByte_digit hws hgt, ahxDigit, h]

theorem ahxHex_waits (hd : d.waiting = false) (v : BitVec 4) :
    ahxHex v d = .emit { waiting := true, hi := v } [] false := by
  simp [ahxHex, hd]

theorem ahxHex_completes (hd : d.waiting = true) (v : BitVec 4) :
    ahxHex v d = .emit betweenPairs [d.hi ++ v] false := by
  simp [ahxHex, hd, betweenPairs]

theorem ahxGt_ends (hd : d.waiting = false) : ahxGt d = .emit d [] true := by
  simp [ahxGt, hd]

theorem ahxGt_completes (hd : d.waiting = true) : ahxGt d = .emit betweenPairs [d.hi ++ 0#4] true := by
  simp [ahxGt, hd, betweenPairs]
end

/-! ## Symbols -/

/-- Settles O38: the row's byte has a nibble, which waits or is joined to the one that waits. -/
theorem ahxDigitPairs : Obligations.AhxDigitPairs := by
  unfold Obligations.AhxDigitPairs
  intro s d i ch v h hw he hrange
  have hlt : v < 16 := by omega
  rw [exec_ahxch h hw he, ahxDecByte_hex (hexval_eq_ofNat hrange)]
  refine ⟨fun hd => ?waits, fun hd => ?completes⟩
  case waits => simp [ahxHex_waits hd]
  case completes =>
    have hv : (BitVec.ofNat 4 v).toNat = v := by rw [BitVec.toNat_ofNat, Nat.mod_eq_of_lt hlt]
    simp [ahxHex_completes hd, betweenPairs, nibbles_eq_ofNat, hv]

/-- Settles O39: the two branches of the rule of `>`. -/
theorem ahxTerminator : Obligations.AhxTerminator := by
  unfold Obligations.AhxTerminator
  intro s d h
  have hx : exec .ahxchGt3E s = .next (applyAnswer Codec.ahxDec (ahxGt d) s) := ahxSymbol_decoding h ahxGt
  rw [hx]
  refine ⟨fun hd => ?ends, fun hd => ?completes⟩
  case ends => simp [ahxGt_ends hd, ← h.2.1]
  case completes => simp [ahxGt_completes hd, betweenPairs, nibbles_eq_ofNat]

/-! ## The text of a byte sequence -/

/-- The digits of every byte in order (R161). -/
def ahxText (up : Bool) (bs : List Byte) : List Byte := bs.flatMap (ahxEncByte up)

section
variable (up : Bool)

theorem ahxText_cons (b : Byte) (bs : List Byte) :
    ahxText up (b :: bs) = ahxEncByte up b ++ ahxText up bs := rfl

theorem ahxText_length (bs : List Byte) : (ahxText up bs).length = 2 * bs.length := by
  induction bs with
  | nil => rfl
  | cons b bs ih =>
    rw [ahxText_cons, List.length_append, ih, List.length_cons, ahxEncByte, List.length_cons, List.length_singleton]
    omega

/-- The digits of byte `k` stand at `2k` and `2k + 1`. -/
theorem ahxText_getElem? {bs : List Byte} {k : Nat} {b : Byte} (h : bs[k]? = some b) :
    (ahxText up bs)[2 * k]? = some (hexchar (b.extractLsb' 4 4) up) ∧
    (ahxText up bs)[2 * k + 1]? = some (hexchar (b.extractLsb' 0 4) up) := by
  induction bs generalizing k with
  | nil => simp at h
  | cons b' bs ih =>
    cases k with
    | zero =>
      obtain rfl : b' = b := by simpa using h
      exact ⟨rfl, rfl⟩
    | succ k => exact ih (by simpa using h)

/-- Every character of the text is a digit. -/
theorem exists_hexval_of_mem_ahxText {bs : List Byte} {ch : Byte} (h : ch ∈ ahxText up bs) :
    ∃ v, hexval ch = some v := by
  obtain ⟨b, -, hch⟩ := List.mem_flatMap.1 h
  simp only [ahxEncByte, List.mem_cons, List.not_mem_nil, or_false] at hch
  obtain rfl | rfl := hch
  · exact ⟨_, hexval_hexchar _ up⟩
  · exact ⟨_, hexval_hexchar _ up⟩
end

/-! ## Encoding -/

theorem emitOut_emitOut (xs ys : List Byte) (s : State) : emitOut ys (emitOut xs s) = emitOut (xs ++ ys) s := by
  simp [emitOut]

/-- The AHX encoder is at work. -/
def AhxEncoding (s : State) : Prop := s.phase = .active ∧ s.codec = some .ahxEnc

theorem AhxEncoding.emitOut {s : State} (h : AhxEncoding s) (bytes : List Byte) :
    AhxEncoding (emitOut bytes s) := h

theorem byteStep_ahxEnc {s : State} (h : AhxEncoding s) (b : Byte) :
    byteStep b s = emitOut (ahxEncByte s.latch.hexup b) s := by
  simp [byteStep, h.2]

/-- The encoder emits the text of the bytes and changes nothing else (R161). -/
theorem pushBytes_ahxEnc (bs : List Byte) {s : State} (h : AhxEncoding s) :
    pushBytes bs s = emitOut (ahxText s.latch.hexup bs) s := by
  induction bs generalizing s with
  | nil => exact (emitOut_nil s).symm
  | cons b bs ih =>
    rw [pushBytes_cons h.1, byteStep_ahxEnc h, ih (h.emitOut _), emitOut_emitOut, emitOut_latch, ahxText_cons]

/-- PUSH to an AHX encoder. -/
theorem exec_push_ahxEnc {s : State} (h : AhxEncoding s) (hf : PayloadFits s) :
    exec .push s = .next { s with inp := [], out := ahxText s.latch.hexup s.inp, rsp := 0#32 } := by
  have hopen : Opened { s with out := [] } := opened_of_codec h.2 fun _ => Codec.noConfusion
  have hpush : pushBytes s.inp { s with out := [] } = emitOut (ahxText s.latch.hexup s.inp) { s with out := [] } :=
    pushBytes_ahxEnc s.inp (s := { s with out := [] }) h
  rw [show exec .push s = execPush s from rfl, execPush_active h.1 h.2 hf, pushActive_eq, hopen.openStream_eq, hpush]
  exact congrArg Host.Outcome.next (if_pos h.1)

/-- Settles O40: the payload's text, read at the places of a byte. -/
theorem ahxEncodePush : Obligations.AhxEncodePush := by
  unfold Obligations.AhxEncodePush
  intro s ha hc hf
  refine ⟨_, exec_push_ahxEnc ⟨ha, hc⟩ hf, ahxText_length _ _, fun k b hk => ?_⟩
  have hhigh : (b.extractLsb' 4 4).toNat = b.toNat / 16 := by
    rw [BitVec.extractLsb'_toNat, Nat.shiftRight_eq_div_pow]
    omega
  have hlow : (b.extractLsb' 0 4).toNat = b.toNat % 16 := BitVec.extractLsb'_toNat 0 4 b
  have hdigits := ahxText_getElem? s.latch.hexup hk
  rwa [hexchar_eq_ofNat, hexchar_eq_ofNat, hhigh, hlow] at hdigits

/-- The whole input to an AHX encoder: its text and the terminator are emitted. -/
theorem answerOf_ahxEnc (b : List Byte) {s : State} (h : AhxEncoding s) :
    answerOf (unlessFaulted finishStages (pushBytes b s)) =
      (okWord, s.out ++ (ahxText s.latch.hexup b ++ [0x3E#8])) := by
  rw [pushBytes_ahxEnc b h]
  simp [unlessFaulted, h.1, finishStages, h.2, answerOf, ahxEncFinish]

/-! ## Decoding, pair by pair -/

/-- The digits of a byte give it back (R164). -/
theorem pushBytes_ahxEncByte {s : State} (h : AhxDecoding s betweenPairs) (up : Bool) (b : Byte) :
    pushBytes (ahxEncByte up b) s = emitOut [b] s := by
  have hfirst : byteStep (hexchar (b.extractLsb' 4 4) up) s =
      atCodec (.ahxDec { waiting := true, hi := b.extractLsb' 4 4 }) s := by
    rw [byteStep_ahxDec h, ahxDecByte_hex (hexval_hexchar _ up), ahxHex_waits rfl, applyAnswer_goesOn, emitOut_nil]
  have hwaits : AhxDecoding (atCodec (.ahxDec { waiting := true, hi := b.extractLsb' 4 4 }) s)
      { waiting := true, hi := b.extractLsb' 4 4 } := ⟨h.1, rfl, h.2.2⟩
  rw [ahxEncByte, pushBytes_cons h.1, hfirst, pushBytes_cons hwaits.1, byteStep_ahxDec hwaits,
    ahxDecByte_hex (hexval_hexchar _ up), ahxHex_completes rfl, applyAnswer_goesOn, atCodec_atCodec,
    atCodec_self h.2.1, nibbles_append, pushBytes_nil]

theorem AhxDecoding.emitOut {s : State} {d : AhxDec} (h : AhxDecoding s d) (bytes : List Byte) :
    AhxDecoding (emitOut bytes s) d := h

theorem pushBytes_ahxText (up : Bool) (bs : List Byte) {s : State} (h : AhxDecoding s betweenPairs) :
    pushBytes (ahxText up bs) s = emitOut bs s := by
  induction bs generalizing s with
  | nil => exact (emitOut_nil s).symm
  | cons b bs ih =>
    rw [ahxText_cons, pushBytes_append, pushBytes_ahxEncByte h, ih (h.emitOut _), emitOut_emitOut,
      List.singleton_append]

/-- `>` between pairs sets `fin` and changes nothing else (R165). -/
theorem byteStep_ahxGt {s : State} (h : AhxDecoding s betweenPairs) :
    byteStep 0x3E#8 s = { s with fin := true } := by
  rw [byteStep_ahxDec h, ahxDecByte_gt, ahxGt_ends rfl]
  simp [← h.2.1]

/-- `>` between pairs, and FINISH (R165, R167). -/
theorem answerOf_ahxGt {s : State} (h : AhxDecoding s betweenPairs) :
    answerOf (unlessFaulted finishStages (pushBytes [0x3E#8] s)) = (okWord, s.out) := by
  have hend : unlessFaulted finishStages { s with fin := true } = { s with fin := true } :=
    (if_pos h.1).trans (finishStages_ended rfl (.inr (.inl ⟨betweenPairs, h.2.1⟩)))
  rw [pushBytes_cons h.1, byteStep_ahxGt h, pushBytes_nil, hend]
  exact if_pos h.1

/-- The text of a byte sequence and the terminator, from a decoder between pairs: the bytes come back. -/
theorem answerOf_ahxDec (up : Bool) (b : List Byte) {s : State} (h : AhxDecoding s betweenPairs) :
    answerOf (unlessFaulted finishStages (pushBytes (ahxText up b ++ [0x3E#8]) s)) = (okWord, s.out ++ b) := by
  rw [pushBytes_append, pushBytes_ahxText up b h, answerOf_ahxGt (h.emitOut b), emitOut_out]

/-! ## The round trip -/

/-- The parameter registers are no concern of the text units (R33). -/
theorem startChecks_ahx (cfg : Config) (dir : Direction) (l : Latches) : startChecks cfg .ahx dir l = true := rfl

/-- Settles O41: the text of `ahxText`, in both directions. -/
theorem ahxRoundTrip : Obligations.AhxRoundTrip := by
  unfold Obligations.AhxRoundTrip
  intro s b
  refine ⟨ahxText (latchOf s).hexup b, ?encode, ahxText_length _ b, fun ch hch => ?plain, ?decode⟩
  case encode =>
    have hcheck := startChecks_ahx s.cfg .enc (latchOf s)
    have hstart : AhxEncoding (started .ahx .enc s) := by
      rw [started_eq hcheck]
      exact ⟨rfl, rfl⟩
    have hlatch : (started .ahx .enc s).latch = latchOf s := by rw [started_eq hcheck]; rfl
    refine codes_of_started hcheck (opened_of_codec hstart.2 fun _ => Codec.noConfusion) ?_
    rw [answerOf_ahxEnc b hstart, hlatch, started_out, List.nil_append]
  case plain =>
    obtain ⟨v, hv⟩ := exists_hexval_of_mem_ahxText _ hch
    rw [mem_ws_iff]
    exact plain_of_hexval hv
  case decode =>
    have hcheck := startChecks_ahx s.cfg .dec (latchOf s)
    have hstart : AhxDecoding (started .ahx .dec s) betweenPairs := by
      rw [started_eq hcheck]
      exact ⟨rfl, rfl, rfl⟩
    refine codes_of_started hcheck (opened_of_codec hstart.2.1 fun _ => Codec.noConfusion) ?_
    rw [answerOf_ahxDec _ b hstart, started_out, List.nil_append]

end Sys2Proof.Machine
end

section
/-! # The codes of the LZW decoder (R178 to R185)

A row of LZWCODE does what `DecodeStep` does with the row's code; the codes of LIT and REF are those that are neither
CLEAR nor EOD. -/

namespace Sys2Proof.Machine

/-! ## `DecodeStep`, one equation per outcome (R178) -/

section
variable {code : Code} {d : LzwDec}

theorem lzwDecodeStep_full (ht : d.tsize = 4095) (hc : code ≠ 256#12) : lzwDecodeStep code d = lzwFull code :=
  if_pos ⟨ht, hc⟩

theorem lzwDecodeStep_clear : lzwDecodeStep 256#12 d = lzwClear d := by simp [lzwDecodeStep]

theorem lzwDecodeStep_eod (ht : d.tsize ≠ 4095) : lzwDecodeStep 257#12 d = lzwEod d := by simp [lzwDecodeStep, ht]

theorem lzwDecodeStep_string (hclear : code ≠ 256#12) (heod : code ≠ 257#12) :
    lzwDecodeStep code d = lzwStringCode code d := by
  simp [lzwDecodeStep, lzwStringCode, hclear, heod]

theorem lzwStringCode_first (ht : d.tsize ≠ 4095) (hl : d.last = none) : lzwStringCode code d = lzwFirst code d := by
  simp [lzwStringCode, ht, hl]

theorem lzwStringCode_normal {last : Code} (ht : d.tsize ≠ 4095) (hl : d.last = some last) :
    lzwStringCode code d = lzwNormal last code d := by
  simp [lzwStringCode, ht, hl]

theorem lzwFirst_literal (h : code.toNat < 256) :
    lzwFirst code d = .emit { d with last := some code } [BitVec.ofNat 8 code.toNat] false := by
  rw [lzwFirst, if_neg (by omega), tabString_literal _ _ h]

/-- A code of the table, or the one after it, whose string starts with `y` (R184, R185). -/
theorem lzwNormal_emits {last : Code} {x y : Byte} {xs str ys : List Byte}
    (hls : tabString d.tab last.toNat = x :: xs)
    (hstr : code.toNat < d.tsize ∧ str = tabString d.tab code.toNat ∨
      code.toNat = d.tsize ∧ str = (x :: xs) ++ [x])
    (hy : str = y :: ys) :
    lzwNormal last code d =
      .emit { d with
        tab := d.tab ++ [(x :: xs) ++ [y]], tsize := d.tsize + 1, width := widthDec (d.tsize + 1)
        last := some code } str false := by
  have hle : ¬ d.tsize < code.toNat := by omega
  have hs : (if code.toNat < d.tsize then tabString d.tab code.toNat else (x :: xs) ++ [x]) = str := by
    obtain ⟨hc, rfl⟩ | ⟨hc, rfl⟩ := hstr
    · exact if_pos hc
    · exact if_neg (by omega)
  simp only [lzwNormal, hls, if_neg hle, List.take_succ_cons, List.take_zero, hs]
  simp [hy]

end

/-! ## The rows of LZWCODE -/

/-- A row of LIT or REF: its code is neither CLEAR nor EOD, which its block does not hold (R107). -/
def IsStringRow (i : Instr) (code : Code) : Prop :=
  (∀ s, exec i s = lzwSymbol (lzwStringCode code) s) ∧ code ≠ 256#12 ∧ code ≠ 257#12

theorem isStringRow_of_block {i : Instr} {code mask pattern : Code}
    (hx : ∀ s, exec i s = lzwSymbol (lzwStringCode code) s) (hw : (code &&& mask == pattern) = true)
    (hclear : (256#12 &&& mask == pattern) = false) (heod : (257#12 &&& mask == pattern) = false) :
    IsStringRow i code := by
  refine ⟨hx, ?_, ?_⟩
  · rintro rfl
    exact Bool.noConfusion (hw.symm.trans hclear)
  · rintro rfl
    exact Bool.noConfusion (hw.symm.trans heod)

theorem lzwRow_of_encode {i : Instr} {code : Code} (hw : i.wf = true) (he : encode i = .lzwcode code) :
    i = .lzwcodeClear100 ∧ code = 256#12 ∨ i = .lzwcodeEod101 ∧ code = 257#12 ∨ IsStringRow i code := by
  cases i <;> simp only [encode, reduceCtorEq, Enc.lzwcode.injEq] at he <;> subst he
  case lzwcodeClear100 => exact .inl ⟨rfl, rfl⟩
  case lzwcodeEod101 => exact .inr (.inl ⟨rfl, rfl⟩)
  all_goals exact .inr (.inr (isStringRow_of_block (fun _ => rfl) hw (by decide) (by decide)))

/-- Every row of LZWCODE does what `DecodeStep` does with its code. -/
theorem exec_lzwcode {s : State} {d : LzwDec} {i : Instr} {code : Code} (h : LzwDecoding s d) (hw : i.wf = true)
    (he : encode i = .lzwcode code) : exec i s = .next (lzwAnswer (lzwDecodeStep code d) s) := by
  obtain ⟨rfl, rfl⟩ | ⟨rfl, rfl⟩ | ⟨hx, hclear, heod⟩ := lzwRow_of_encode hw he
  · rw [lzwDecodeStep_clear]
    exact lzwSymbol_decoding h lzwClear
  · have hstep : lzwDecodeStep 257#12 d = lzwEodCode d := by
      by_cases ht : d.tsize = 4095
      · rw [lzwDecodeStep_full ht (by decide), lzwEodCode, if_pos ht]
      · rw [lzwDecodeStep_eod ht, lzwEodCode, if_neg ht]
    rw [hstep]
    exact lzwSymbol_decoding h lzwEodCode
  · rw [hx, lzwSymbol_decoding h, lzwDecodeStep_string hclear heod]

/-! ## What becomes of an answer -/

/-- A string goes out of the block, or to the predictor of a chain (R251). -/
theorem lzwAnswer_string (d' : LzwDec) (str : List Byte) (s : State) :
    lzwAnswer (.emit d' str false) s =
      (let t := { s with codec := some (.lzwDec d') }
       if s.chain then predFeed str t else { t with out := s.out ++ str }) := by
  rw [lzwAnswer_emit, Bool.or_false, lzwDecSink]
  rfl

/-- An answer without a string sends nothing on, chained or not. -/
theorem lzwAnswer_silent (d' : LzwDec) (term : Bool) (s : State) :
    lzwAnswer (.emit d' [] term) s = { s with codec := some (.lzwDec d'), fin := s.fin || term } := by
  rw [lzwAnswer_emit, lzwDecSink, predFeed_nil, emitOut_nil, ite_self]

theorem lzwAnswer_clear (d : LzwDec) (s : State) :
    lzwAnswer (lzwClear d) s =
      { s with codec := some (.lzwDec { d with tab := [], tsize := 258, width := 9, last := none }) } := by
  rw [lzwClear, lzwAnswer_silent, Bool.or_false]

/-! ## The obligations -/

/-- Settles O42: CLEAR is its rule in every state of the decoder, EOD its rule where the table is not full. -/
theorem lzwClearAndEod : Obligations.LzwClearAndEod := by
  unfold Obligations.LzwClearAndEod
  intro s d h
  refine ⟨?clear, fun ht => ?eod⟩
  case clear => rw [exec_lzwcode h rfl rfl, lzwDecodeStep_clear, lzwAnswer_clear]
  case eod => rw [exec_lzwcode h rfl rfl, lzwDecodeStep_eod ht, lzwEod, lzwAnswer_silent, Bool.or_true]

/-- Settles O43: the two cases of the rule of a first code; one byte fed to the predictor is one `predByte`. -/
theorem lzwFirstCode : Obligations.LzwFirstCode := by
  unfold Obligations.LzwFirstCode
  intro s d i code h ht hlast hw he
  have hstep (hclear : code.toNat ≠ 256) (heod : code.toNat ≠ 257) : lzwDecodeStep code d = lzwFirst code d := by
    rw [lzwDecodeStep_string (mt (congrArg BitVec.toNat) hclear) (mt (congrArg BitVec.toNat) heod),
      lzwStringCode_first ht hlast]
  rw [exec_lzwcode h hw he]
  refine ⟨fun hlit => ?literal, fun href => ?above⟩
  case literal =>
    rw [hstep (by omega) (by omega), lzwFirst_literal hlit, lzwAnswer_string, BitVec.ofNat_toNat]
    exact congrArg Host.Outcome.next (if_congr Iff.rfl (if_pos h.1) rfl)
  case above =>
    have hne : code.toNat ≠ 256 ∧ code.toNat ≠ 257 := by omega
    rw [hstep hne.1 hne.2, lzwFirst, if_pos href, lzwAnswer_raise]

/-- Settles O44: a code at most the table size emits its string, one above it faults. -/
theorem lzwNormalCode : Obligations.LzwNormalCode := by
  unfold Obligations.LzwNormalCode
  intro s d i code last x xs h ht hlast hls hw he hclear heod
  have hstep : lzwDecodeStep code d = lzwNormal last code d := by
    rw [lzwDecodeStep_string hclear heod, lzwStringCode_normal (by omega) hlast]
  rw [exec_lzwcode h hw he, hstep]
  refine ⟨fun str y ys hstr hy => ?emits, fun habove => ?above⟩
  case emits =>
    rw [lzwNormal_emits hls hstr hy, lzwAnswer_string]
    rfl
  case above => rw [lzwNormal, if_pos habove, lzwAnswer_raise]

/-- Settles O45: the test of the full table comes first in `DecodeStep`, and lets CLEAR pass. -/
theorem lzwTableFullFaults : Obligations.LzwTableFullFaults := by
  unfold Obligations.LzwTableFullFaults
  intro s d i code h ht hw he
  rw [exec_lzwcode h hw he]
  refine ⟨fun hc => ?other, ?clear⟩
  case other => rw [lzwDecodeStep_full ht hc, lzwFull, lzwAnswer_raise]
  case clear =>
    rintro rfl
    rw [lzwDecodeStep_clear, lzwAnswer_clear]

end Sys2Proof.Machine
end

section
/-! # The LZW encoder (R187 to R193)

What the encoder holds and what it writes are followed as bit strings: `Writes e bits r` says that after the bits held
by `e` come `bits`, of which whole bytes have left and the rest is held. A candidate is written in one place,
`lzwWriteCand`, which the byte rule and FINISH share. -/

namespace Sys2Proof.Machine

/-! ## Bit strings and their numbers -/

theorem bits_ext {as bs : List Bool} (hlen : as.length = bs.length) (hnat : natOfBits as = natOfBits bs) : as = bs := by
  rw [← bitsOfNat_natOfBits as, hlen, hnat, bitsOfNat_natOfBits]

theorem natOfBits_bitsOfNat_of_lt {w v : Nat} (h : v < 2 ^ w) : natOfBits (bitsOfNat w v) = v := by
  rw [natOfBits_bitsOfNat, Nat.mod_eq_of_lt h]

theorem bitsOfNat_mul_add {m k x y : Nat} (hy : y < 2 ^ k) :
    bitsOfNat (m + k) (x * 2 ^ k + y) = bitsOfNat m x ++ bitsOfNat k y := by
  refine bits_ext (by simp) ?_
  rw [natOfBits_append, natOfBits_bitsOfNat_of_lt hy, natOfBits_bitsOfNat, natOfBits_bitsOfNat, bitsOfNat_length,
    Nat.add_comm m k, pow_add, Nat.mod_mul, Nat.mul_comm x, Nat.mul_add_mod, Nat.mod_eq_of_lt hy,
    Nat.mul_add_div (Nat.two_pow_pos k), Nat.div_eq_of_lt hy, Nat.add_zero, Nat.add_comm y, Nat.mul_comm]

theorem bitsOfNat_beNat (bs : List Byte) : bitsOfNat (8 * bs.length) (beNat bs) = bitsOfBytes bs := by
  rw [← natOfBits_bitsOfBytes, ← bitsOfBytes_length, bitsOfNat_natOfBits]

theorem bitsOfBytes_append (as bs : List Byte) : bitsOfBytes (as ++ bs) = bitsOfBytes as ++ bitsOfBytes bs := by
  rw [bitsOfBytes, List.flatMap_append]
  rfl

/-! ## The table (R40) -/

section
variable {tab : List (List Byte)}

theorem tabCode_single (b : Byte) : tabCode tab [b] = b.toNat := rfl

theorem tabCode_recorded {str : List Byte} (h : 2 ≤ str.length) : tabCode tab str = 258 + tab.idxOf str := by
  unfold tabCode
  split
  · simp at h
  · rfl

theorem isTabString_iff (str : List Byte) : isTabString tab str = true ↔ str.length = 1 ∨ str ∈ tab := by
  simp [isTabString]

theorem codeMapped_tabCode (h2 : ∀ str ∈ tab, 2 ≤ str.length) {str : List Byte} (h : isTabString tab str = true) :
    codeMapped tab (tabCode tab str) := by
  obtain h1 | hmem := (isTabString_iff str).1 h
  · obtain ⟨b, rfl⟩ := List.length_eq_one_iff.1 h1
    exact .inl b.isLt
  · rw [tabCode_recorded (h2 str hmem)]
    exact .inr ⟨by omega, by have := List.idxOf_lt_length_of_mem hmem; omega⟩

/-- The code of a string is unique, since no string is recorded twice (R40). -/
theorem tabCode_tabString (h2 : ∀ str ∈ tab, 2 ≤ str.length) (hn : tab.Nodup) {c : Nat} (hc : codeMapped tab c) :
    tabCode tab (tabString tab c) = c := by
  obtain hlit | ⟨hge, hlt⟩ := hc
  · rw [tabString_literal _ _ hlit, tabCode_single, BitVec.toNat_ofNat, Nat.mod_eq_of_lt hlit]
  · obtain ⟨k, rfl⟩ := Nat.exists_eq_add_of_le hge
    have hk : k < tab.length := by omega
    rw [tabString_recorded, List.getD_eq_getElem _ _ hk, tabCode_recorded (h2 _ (List.getElem_mem hk)),
      hn.idxOf_getElem k hk]

end

/-! ## What the encoder holds and writes -/

/-- The bits not yet written, oldest first (R42). -/
def LzwEnc.held (e : LzwEnc) : List Bool := bitsOfNat e.nbits e.acc

/-- Less than a byte is held (R46, R187). -/
def LzwEnc.HoldsUnderByte (e : LzwEnc) : Prop := e.nbits ≤ 7 ∧ e.acc < 2 ^ e.nbits

/-- An encoder that holds what `e` holds and is to write `bits` ends as `r`: whole bytes left, the rest held. -/
def Writes (e : LzwEnc) (bits : List Bool) (r : LzwEnc × List Byte) : Prop :=
  r.1.HoldsUnderByte ∧ e.held ++ bits = bitsOfBytes r.2 ++ r.1.held

theorem Writes.refl {e : LzwEnc} (h : e.HoldsUnderByte) : Writes e [] (e, []) := ⟨h, List.append_nil _⟩

theorem Writes.trans {e : LzwEnc} {bits bits' : List Bool} {r r' : LzwEnc × List Byte} (h : Writes e bits r)
    (h' : Writes r.1 bits' r') : Writes e (bits ++ bits') (r'.1, r.2 ++ r'.2) := by
  refine ⟨h'.1, ?_⟩
  rw [← List.append_assoc, h.2, List.append_assoc, h'.2, bitsOfBytes_append, List.append_assoc]

theorem writeCode_writes {e : LzwEnc} {c : Nat} (h : e.HoldsUnderByte) (hc : c < 2 ^ e.width) :
    Writes e (bitsOfNat e.width c) (writeCode c e) := by
  obtain ⟨hn, ha⟩ := h
  have hall : e.acc * 2 ^ e.width + c < 2 ^ (e.nbits + e.width) := by
    rw [pow_add]
    nlinarith
  obtain ⟨hlen, hnbits, hacc, hsum⟩ :=
    drainBytes_spec ((e.nbits + e.width) / 8) (e.acc * 2 ^ e.width + c) (e.nbits + e.width) (by omega) hall
  set r := drainBytes ((e.nbits + e.width) / 8) (e.acc * 2 ^ e.width + c) (e.nbits + e.width) with hr
  have hleft : e.nbits + e.width = 8 * r.1.length + r.2.2 := by omega
  rw [← hnbits] at hacc hsum
  have hbits : e.held ++ bitsOfNat e.width c = bitsOfBytes r.1 ++ bitsOfNat r.2.2 r.2.1 := by
    rw [LzwEnc.held, ← bitsOfNat_mul_add hc, hleft, hsum, bitsOfNat_mul_add hacc, bitsOfNat_beNat]
  exact ⟨⟨by change r.2.2 ≤ 7; omega, hacc⟩, hbits⟩

/-- EOD, and 0 bits up to the end of the byte (R193). -/
theorem lzwWriteEod_bits {e : LzwEnc} (h : e.HoldsUnderByte) (hw : 9 ≤ e.width) :
    ∃ pad, pad < 8 ∧ e.held ++ bitsOfNat e.width 257 ++ bitsOfNat pad 0 = bitsOfBytes (lzwWriteEod e).2 := by
  have h257 : 257 < 2 ^ e.width := lt_of_lt_of_le (by decide) (Nat.pow_le_pow_right (by decide) hw)
  obtain ⟨⟨hn, ha⟩, hbits⟩ := writeCode_writes h h257
  unfold lzwWriteEod
  rw [hbits]
  generalize writeCode 257 e = r at hn ha
  by_cases hpos : r.1.nbits > 0
  · refine ⟨8 - r.1.nbits, by omega, ?_⟩
    have hlast : r.1.acc * 2 ^ (8 - r.1.nbits) < 2 ^ 8 := by
      rw [show 8 = r.1.nbits + (8 - r.1.nbits) by omega, pow_add, Nat.add_sub_cancel_left]
      exact Nat.mul_lt_mul_of_pos_right ha (Nat.two_pow_pos _)
    have hbyte : bitsOfNat 8 (r.1.acc * 2 ^ (8 - r.1.nbits)) = r.1.held ++ bitsOfNat (8 - r.1.nbits) 0 := by
      rw [LzwEnc.held, ← bitsOfNat_mul_add (Nat.two_pow_pos _), Nat.add_zero, Nat.add_sub_cancel' (by omega)]
    simp only [if_pos hpos, bitsOfBytes_append, bitsOfBytes_cons, bitsOfBytes_nil, List.append_nil]
    rw [BitVec.toNat_ofNat, Nat.mod_eq_of_lt hlast, hbyte, List.append_assoc]
  · have hzero : r.1.nbits = 0 := by omega
    refine ⟨0, by omega, ?_⟩
    simp [LzwEnc.held, hzero, bitsOfNat]

/-! ## Writing a candidate -/

/-- The encoder that has written its candidate's code, with the table and candidate that follow, one more entry
counted. -/
def LzwEnc.counted (tab : List (List Byte)) (cand : List Byte) (e : LzwEnc) : LzwEnc :=
  { (writeCode (tabCode e.tab e.cand) e).1 with tab := tab, tsize := e.tsize + 1, cand := cand }

/-- The candidate's code, then the bump (R189, R192). -/
def lzwWriteCand (tab : List (List Byte)) (cand : List Byte) (e : LzwEnc) : LzwEnc × List Byte :=
  ((lzwBump (e.counted tab cand)).1, (writeCode (tabCode e.tab e.cand) e).2 ++ (lzwBump (e.counted tab cand)).2)

section
variable {e : LzwEnc}

theorem lzwEncByte_extends {b : Byte} (h : isTabString e.tab (e.cand ++ [b]) = true) :
    lzwEncByte b e = ({ e with cand := e.cand ++ [b] }, []) := if_pos h

theorem lzwEncByte_records {b : Byte} (h : ¬ isTabString e.tab (e.cand ++ [b]) = true) :
    lzwEncByte b e = lzwWriteCand (e.tab ++ [e.cand ++ [b]]) [b] e := if_neg h

theorem lzwFlushCand_of_nil (h : e.cand = []) : lzwFlushCand e = (e, []) := if_pos h

theorem lzwFlushCand_of_ne_nil (h : e.cand ≠ []) : lzwFlushCand e = lzwWriteCand e.tab [] e := if_neg h

/-- Below 4096 entries `Bump` sets the width the new table size asks for (R190). -/
theorem lzwBump_grows (ht : e.tsize ≤ 4095) (hw : e.width = widthEnc (e.tsize - 1)) :
    lzwBump e = ({ e with width := widthEnc e.tsize }, []) := by
  unfold lzwBump
  split_ifs with h1 h2 h3 h4
  · rw [h1]; rfl
  · rw [h2]; rfl
  · rw [h3]; rfl
  · omega
  · have hsame : widthEnc e.tsize = e.width := by
      rw [hw]
      unfold widthEnc
      split_ifs <;> omega
    rw [hsame]

/-- At 4096 entries `Bump` writes CLEAR and drops the table (R191). -/
theorem lzwBump_full (ht : e.tsize = 4096) :
    lzwBump e = ({ (writeCode 256 e).1 with tab := [], tsize := 258, width := 9 }, (writeCode 256 e).2) := by
  simp [lzwBump, ht]

theorem lzwWriteCand_full (tab : List (List Byte)) (cand : List Byte) (ht : e.tsize + 1 = 4096) :
    lzwWriteCand tab cand e =
      ({ (writeCode 256 (e.counted tab cand)).1 with tab := [], tsize := 258, width := 9 },
        (writeCode (tabCode e.tab e.cand) e).2 ++ (writeCode 256 (e.counted tab cand)).2) := by
  rw [lzwWriteCand, lzwBump_full ht]

end

section
variable {e : LzwEnc} (h : e.Ok)
include h

theorem LzwEnc.Ok.holdsUnderByte : e.HoldsUnderByte := by
  obtain ⟨-, -, -, -, -, hacc, hnbits, -⟩ := h
  exact ⟨hnbits, hacc⟩

theorem LzwEnc.Ok.tsize_eq : e.tsize = 258 + e.tab.length := by
  obtain ⟨-, -, hsize, -⟩ := h
  exact hsize

theorem LzwEnc.Ok.tsize_le : e.tsize ≤ 4095 := by
  obtain ⟨-, -, -, hle, -⟩ := h
  exact hle

theorem LzwEnc.Ok.width_eq : e.width = widthEnc e.tsize := by
  obtain ⟨-, -, -, -, hw, -⟩ := h
  exact hw

theorem LzwEnc.Ok.isTabString_cand (hc : e.cand ≠ []) : isTabString e.tab e.cand = true := by
  obtain ⟨-, -, -, -, -, -, -, hcand, -⟩ := h
  exact hcand.resolve_left hc

theorem LzwEnc.Ok.codeMapped_cand (hc : e.cand ≠ []) : codeMapped e.tab (tabCode e.tab e.cand) := by
  have hcand := h.isTabString_cand hc
  obtain ⟨h2, -⟩ := h
  exact codeMapped_tabCode h2 hcand

/-- A mapped code is below the table size, so it fits in the width (R190). -/
theorem LzwEnc.Ok.code_lt {c : Nat} (hc : codeMapped e.tab c) : c < e.tsize ∧ c < 2 ^ e.width := by
  have hle := tsize_le_widthEnc h.tsize_le
  rw [← h.width_eq] at hle
  have hsize := h.tsize_eq
  unfold codeMapped at hc
  omega

variable (tab : List (List Byte)) (cand : List Byte)

theorem lzwWriteCand_grows (ht : e.tsize + 1 ≠ 4096) :
    lzwWriteCand tab cand e =
      ({ e.counted tab cand with width := widthEnc (e.tsize + 1) }, (writeCode (tabCode e.tab e.cand) e).2) := by
  have hle : (e.counted tab cand).tsize ≤ 4095 :=
    Nat.lt_succ_iff.1 (Nat.lt_of_le_of_ne (Nat.succ_le_succ h.tsize_le) ht)
  rw [lzwWriteCand, lzwBump_grows hle h.width_eq, List.append_nil]
  rfl

variable (hc : e.cand ≠ [])
include hc

theorem writeCode_cand_writes :
    Writes e (bitsOfNat e.width (tabCode e.tab e.cand)) (writeCode (tabCode e.tab e.cand) e) :=
  writeCode_writes h.holdsUnderByte (h.code_lt (h.codeMapped_cand hc)).2

theorem lzwWriteCand_grows_writes (ht : e.tsize + 1 ≠ 4096) :
    Writes e (bitsOfNat e.width (tabCode e.tab e.cand)) (lzwWriteCand tab cand e) := by
  rw [lzwWriteCand_grows h tab cand ht]
  exact writeCode_cand_writes h hc

/-- CLEAR follows in 12 bits, the width at table size 4095 (R191). -/
theorem lzwWriteCand_full_writes (ht : e.tsize + 1 = 4096) :
    Writes e (bitsOfNat e.width (tabCode e.tab e.cand) ++ bitsOfNat 12 256) (lzwWriteCand tab cand e) := by
  have hcand := writeCode_cand_writes h hc
  have hw : e.width = 12 := by
    rw [h.width_eq, show e.tsize = 4095 by omega]
    rfl
  have hwidth : (e.counted tab cand).width = 12 := hw
  have hclear := writeCode_writes (e := e.counted tab cand) (c := 256) hcand.1 (by rw [hwidth]; decide)
  rw [hwidth] at hclear
  rw [lzwWriteCand_full tab cand ht]
  exact Writes.trans (r := (e.counted tab cand, _)) hcand hclear

end

/-! ## PUSH of one byte -/

theorem byteStep_lzwEnc {s : State} {e : LzwEnc} (hc : s.codec = some (.lzwEnc e)) (hch : s.chain = false) (b : Byte) :
    byteStep b s = emitOut (lzwEncByte b e).2 (atCodec (.lzwEnc (lzwEncByte b e).1) s) := by
  simp [byteStep, hc, hch, lzwEncFeed, atCodec]

/-- PUSH of one byte to an unchained LZW encoder that owes no opening CLEAR. -/
theorem exec_push_lzwEnc {s : State} {e : LzwEnc} {b : Byte} (ha : s.phase = .active)
    (hc : s.codec = some (.lzwEnc e)) (hl : e.lead = false) (hch : s.chain = false) (hf : PayloadFits s)
    (hi : s.inp = [b]) :
    exec .push s =
      .next { s with codec := some (.lzwEnc (lzwEncByte b e).1), inp := [], out := (lzwEncByte b e).2,
                     rsp := 0#32 } := by
  have ho : openStream { s with out := [] } = { s with out := [] } := openStream_opened hc hl
  have hstep := byteStep_lzwEnc (s := { s with out := [] }) hc hch b
  rw [show exec .push s = execPush s from rfl, execPush_active ha hc hf, pushActive_one ha hi ho, hstep]
  simp only [emitOut_phase, atCodec_phase, ha, if_true]
  rfl

/-- Settles O47: the byte extends the candidate, or the candidate is written with or without a full table. -/
theorem lzwEncodeByte : Obligations.LzwEncodeByte := by
  unfold Obligations.LzwEncodeByte
  intro s e b ha hc hok hl hch hf hi ns w recorded
  rw [exec_push_lzwEnc ha hc hl hch hf hi]
  have hiff := isTabString_iff (tab := e.tab) ns
  refine ⟨fun hin => ?joins, fun hlen hnew ht => ?grows, fun hlen hnew ht => ?full⟩
  case joins => rw [lzwEncByte_extends (hiff.2 hin)]
  case grows =>
    rw [lzwEncByte_records (mt hiff.1 (not_or.2 ⟨hlen, hnew⟩)), lzwWriteCand_grows hok _ _ ht]
    rfl
  case full =>
    rw [lzwEncByte_records (mt hiff.1 (not_or.2 ⟨hlen, hnew⟩)), lzwWriteCand_full _ _ ht]
    rfl

/-! ## FINISH -/

/-- What FINISH writes, given what writing the candidate comes to (R192, R193). -/
theorem lzwEncFinish_bits {e : LzwEnc} {bits : List Bool} {w : Nat} (h : Writes e bits (lzwFlushCand e))
    (hw : (lzwFlushCand e).1.width = w) (h9 : 9 ≤ w) :
    ∃ pad, pad < 8 ∧ e.held ++ bits ++ bitsOfNat w 257 ++ bitsOfNat pad 0 = bitsOfBytes (lzwEncFinish e).2 := by
  subst hw
  obtain ⟨pad, hpad, heod⟩ := lzwWriteEod_bits h.1 h9
  refine ⟨pad, hpad, ?_⟩
  rw [h.2, lzwEncFinish, bitsOfBytes_append, ← heod]
  simp only [List.append_assoc]

theorem lzwEncFinish_nil {e : LzwEnc} (hok : e.Ok) (hc : e.cand = []) :
    ∃ pad, pad < 8 ∧ e.held ++ bitsOfNat e.width 257 ++ bitsOfNat pad 0 = bitsOfBytes (lzwEncFinish e).2 := by
  have h9 : 9 ≤ e.width := hok.width_eq ▸ (widthEnc_range _).1
  have hflush : Writes e [] (lzwFlushCand e) := lzwFlushCand_of_nil hc ▸ Writes.refl hok.holdsUnderByte
  simpa only [List.append_nil] using lzwEncFinish_bits hflush (by rw [lzwFlushCand_of_nil hc]) h9

theorem lzwEncFinish_grows {e : LzwEnc} (hok : e.Ok) (hc : e.cand ≠ []) (ht : e.tsize + 1 ≠ 4096) :
    ∃ pad, pad < 8 ∧ e.held ++ bitsOfNat e.width (tabCode e.tab e.cand) ++ bitsOfNat (widthEnc (e.tsize + 1)) 257 ++
      bitsOfNat pad 0 = bitsOfBytes (lzwEncFinish e).2 := by
  refine lzwEncFinish_bits ?_ ?_ (widthEnc_range _).1 <;> rw [lzwFlushCand_of_ne_nil hc]
  · exact lzwWriteCand_grows_writes hok _ _ hc ht
  · rw [lzwWriteCand_grows hok _ _ ht]

theorem lzwEncFinish_full {e : LzwEnc} (hok : e.Ok) (hc : e.cand ≠ []) (ht : e.tsize + 1 = 4096) :
    ∃ pad, pad < 8 ∧ e.held ++ (bitsOfNat e.width (tabCode e.tab e.cand) ++ bitsOfNat 12 256) ++ bitsOfNat 9 257 ++
      bitsOfNat pad 0 = bitsOfBytes (lzwEncFinish e).2 := by
  refine lzwEncFinish_bits ?_ ?_ le_rfl <;> rw [lzwFlushCand_of_ne_nil hc]
  · exact lzwWriteCand_full_writes hok _ _ hc ht
  · rw [lzwWriteCand_full _ _ ht]

theorem openStream_lzwEnc {s : State} {e : LzwEnc} (hc : s.codec = some (.lzwEnc e)) :
    openStream s = emitOut (lzwOpening e).2 (atCodec (.lzwEnc (lzwOpening e).1) s) := by
  simp [openStream, hc, atCodec]

/-- FINISH of an LZW encode whose predictor, if any, holds no short row (R192, R252). -/
theorem finishStages_lzwEnc {s : State} {e : LzwEnc} (ha : s.phase = .active) (hc : s.codec = some (.lzwEnc e))
    (hrow : s.chain = true → ∃ prev, s.rows = some { cur := [], prev := prev }) :
    finishStages s =
      emitOut ((lzwOpening e).2 ++ (lzwEncFinish (lzwOpening e).1).2)
        (atCodec (.lzwEnc (lzwEncFinish (lzwOpening e).1).1) s) := by
  have hopen := openStream_lzwEnc hc
  have hflush : lzwEncFlush (openStream s) =
      emitOut ((lzwOpening e).2 ++ (lzwEncFinish (lzwOpening e).1).2)
        (atCodec (.lzwEnc (lzwEncFinish (lzwOpening e).1).1) s) := by
    rw [hopen, ← emitOut_emitOut]
    rfl
  rw [← hflush]
  cases hch : s.chain
  · simp [finishStages, hc, hch]
  · obtain ⟨prev, hr⟩ := hrow hch
    have hrows : (openStream s).rows = some { cur := [], prev := prev } := by
      rw [hopen]
      exact hr
    have hpred : predFinish (openStream s) = openStream s := by simp [predFinish, hrows]
    have hact : (openStream s).phase = .active := (openStream_runs s).phase.trans ha
    simp [finishStages, hc, hch, hpred, unlessFaulted, hact]

theorem exec_finish_lzwEnc {s : State} {e : LzwEnc} (ha : s.phase = .active) (hc : s.codec = some (.lzwEnc e))
    (hrow : s.chain = true → ∃ prev, s.rows = some { cur := [], prev := prev }) :
    exec .finish s =
      .next { s with codec := none, rows := none, phase := .done, rsp := 0#32,
                     out := (lzwOpening e).2 ++ (lzwEncFinish (lzwOpening e).1).2 } :=
  exec_finish_done ha hc (finishStages_lzwEnc (s := { s with out := [] }) ha hc hrow) ha

theorem lzwOpening_opened {e : LzwEnc} (hl : e.lead = false) : lzwOpening e = (e, []) := by simp [lzwOpening, hl]

/-- Bytes by their bits: how many, and the number they form. -/
theorem length_and_beNat_of_bits {bits : List Bool} {out : List Byte} (h : bits = bitsOfBytes out) :
    8 * out.length = bits.length ∧ beNat out = natOfBits bits := by
  rw [h, bitsOfBytes_length, natOfBits_bitsOfBytes]
  exact ⟨rfl, rfl⟩

/-- Settles O60: the bits FINISH writes, read as one number. -/
theorem lzwEncodeFinish : Obligations.LzwEncodeFinish := by
  unfold Obligations.LzwEncodeFinish
  intro s e ha hc hok hrow
  refine ⟨_, exec_finish_lzwEnc ha hc hrow, fun hl => ?owed, fun hl hcand => ?nil,
    fun c hl hcand hmap hstr => ?cand⟩
  case owed =>
    obtain ⟨-, -, -, -, -, -, -, -, hinit⟩ := hok
    rw [hinit hl]
    decide
  all_goals
    have hacc := natOfBits_bitsOfNat_of_lt hok.holdsUnderByte.2
    have heod (w : Nat) (hw : 9 ≤ w) : natOfBits (bitsOfNat w 257) = 257 :=
      natOfBits_bitsOfNat_of_lt (lt_of_lt_of_le (by decide) (Nat.pow_le_pow_right (by decide) hw))
    have hpadding (pad : Nat) : natOfBits (bitsOfNat pad 0) = 0 := natOfBits_bitsOfNat_of_lt (Nat.two_pow_pos pad)
    rw [lzwOpening_opened hl, List.nil_append]
  case nil =>
    have hw : 9 ≤ e.width := hok.width_eq ▸ (widthEnc_range _).1
    obtain ⟨pad, hpad, hbits⟩ := lzwEncFinish_nil hok hcand
    obtain ⟨hlen, hnum⟩ := length_and_beNat_of_bits hbits
    refine ⟨pad, hpad, by simpa only [LzwEnc.held, List.length_append, bitsOfNat_length] using hlen, ?_⟩
    simpa only [LzwEnc.held, natOfBits_append, bitsOfNat_length, hacc, heod _ hw, hpadding, Nat.add_zero] using hnum
  case cand =>
    have hcode : tabCode e.tab e.cand = c := by
      obtain ⟨h2, hn, -⟩ := hok
      rw [← hstr, tabCode_tabString h2 hn hmap]
    have hc' := natOfBits_bitsOfNat_of_lt (hok.code_lt hmap).2
    refine ⟨fun w ht hw => ?grows, fun ht => ?full⟩
    case grows =>
      obtain rfl : w = widthEnc (e.tsize + 1) := hw
      obtain ⟨pad, hpad, hbits⟩ := lzwEncFinish_grows hok hcand ht
      obtain ⟨hlen, hnum⟩ := length_and_beNat_of_bits hbits
      rw [hcode] at hlen hnum
      refine ⟨pad, hpad, by simpa only [LzwEnc.held, List.length_append, bitsOfNat_length] using hlen, ?_⟩
      simpa only [LzwEnc.held, natOfBits_append, bitsOfNat_length, hacc, heod _ (widthEnc_range _).1, hpadding,
        Nat.add_zero, hc'] using hnum
    case full =>
      obtain ⟨pad, hpad, hbits⟩ := lzwEncFinish_full hok hcand ht
      obtain ⟨hlen, hnum⟩ := length_and_beNat_of_bits hbits
      rw [hcode, ← List.append_assoc] at hlen hnum
      have hclear := natOfBits_bitsOfNat_of_lt (w := 12) (v := 256) (by decide)
      refine ⟨pad, hpad, by simpa only [LzwEnc.held, List.length_append, bitsOfNat_length] using hlen, ?_⟩
      simpa only [LzwEnc.held, natOfBits_append, bitsOfNat_length, hacc, heod 9 le_rfl, hpadding, Nat.add_zero, hc',
        hclear] using hnum

end Sys2Proof.Machine
end

section
/-! # The LZW round trip (R194)

The decoder reads, bit for bit, what the encoder writes. After every byte the encoder has taken, `Mirrors` relates the
two tables: the decoder has every entry of the encoder but the last, which it records when it sees the first byte of the
string that follows, and both work at the same width (R190). A code the encoder writes is then either one the decoder
has or the one it is about to record (R184). -/

namespace Sys2Proof.Machine

/-! ## The decoder reads bits -/

/-- `d` with these bits taken from the input and not yet part of a code (R41). -/
def LzwDec.holding (d : LzwDec) (h : List Bool) : LzwDec := { d with acc := natOfBits h, nbits := h.length }

/-- The held bits and a byte: a code when its width is reached (R177). -/
theorem readCode_holding (b : Byte) (d : LzwDec) (h : List Bool) :
    readCode b (d.holding h) =
      let g := h ++ bitsOfNat 8 b.toNat
      if d.width ≤ g.length then
        (some (BitVec.ofNat 12 (natOfBits (g.take d.width))), d.holding (g.drop d.width))
      else (none, d.holding g) := by
  have hnum : natOfBits (h ++ bitsOfNat 8 b.toNat) = natOfBits h * 256 + b.toNat := by
    rw [natOfBits_append, natOfBits_bitsOfNat_of_lt b.isLt, bitsOfNat_length]
    rfl
  have hlen : (h ++ bitsOfNat 8 b.toNat).length = h.length + 8 := by simp
  simp only [readCode_cases, LzwDec.holding, natOfBits_take, natOfBits_drop, List.length_drop, hnum, hlen]

/-- An LZW decoder `d` is at work, unchained, and `ahead` are the bits it holds followed by those of `bytes`. -/
def Ahead (s : State) (d : LzwDec) (bytes : List Byte) (ahead : List Bool) : Prop :=
  s.chain = false ∧ ∃ h, h.length < 8 ∧ LzwDecoding s (d.holding h) ∧ h ++ bitsOfBytes bytes = ahead

/-- PUSH of bytes whose bits start with a code runs the code, and goes on with the bits after it. -/
theorem pushBytes_takesCode {s : State} {d : LzwDec} {h rest : List Bool} {bytes : List Byte} {code : Code}
    (hs : LzwDecoding s (d.holding h)) (hh : h.length < d.width)
    (hbits : h ++ bitsOfBytes bytes = bitsOfNat d.width code.toNat ++ rest) (hcode : code.toNat < 2 ^ d.width) :
    ∃ h' bytes', h'.length < 8 ∧ h' ++ bitsOfBytes bytes' = rest ∧
      pushBytes bytes s = pushBytes bytes' (lzwAnswer (lzwDecodeStep code (d.holding h')) s) := by
  induction bytes generalizing s h with
  | nil =>
    have hlen := congrArg List.length hbits
    simp only [List.length_append, bitsOfNat_length, bitsOfBytes_nil, List.length_nil] at hlen
    omega
  | cons b bytes ih =>
    rw [bitsOfBytes_cons, ← List.append_assoc] at hbits
    have hread := readCode_holding b d h
    rw [pushBytes_cons hs.1, byteStep_lzwDec hs, lzwDecByte]
    generalize hg : h ++ bitsOfNat 8 b.toNat = g at hbits hread
    have hlen : g.length = h.length + 8 := by rw [← hg, List.length_append, bitsOfNat_length]
    by_cases hw : d.width ≤ g.length
    · have htake := congrArg (List.take d.width) hbits
      have hdrop := congrArg (List.drop d.width) hbits
      rw [List.take_append_of_le_length hw, List.take_left' (bitsOfNat_length _ _)] at htake
      rw [List.drop_append_of_le_length hw, List.drop_left' (bitsOfNat_length _ _)] at hdrop
      simp only [if_pos hw, htake, natOfBits_bitsOfNat_of_lt hcode, BitVec.ofNat_toNat, BitVec.setWidth_eq] at hread
      refine ⟨g.drop d.width, bytes, by rw [List.length_drop]; omega, hdrop, ?_⟩
      rw [hread]
    · simp only [if_neg hw] at hread
      rw [hread]
      exact ih (s := atCodec (.lzwDec (d.holding g)) s) ⟨hs.1, rfl, hs.2.2⟩ (by omega) hbits

/-- A decoder `d` that gets `bits` becomes `d'` and emits `out`, whatever bits follow. -/
def Reads (d : LzwDec) (bits : List Bool) (d' : LzwDec) (out : List Byte) : Prop :=
  ∀ s bytes rest, Ahead s d bytes (bits ++ rest) →
    ∃ t bytes', Ahead t d' bytes' rest ∧ t.out = s.out ++ out ∧ pushBytes bytes s = pushBytes bytes' t

theorem Reads.refl (d : LzwDec) : Reads d [] d [] :=
  fun s bytes _ h => ⟨s, bytes, h, (List.append_nil _).symm, rfl⟩

theorem Reads.trans {d d' d'' : LzwDec} {bits bits' : List Bool} {out out' : List Byte} (h : Reads d bits d' out)
    (h' : Reads d' bits' d'' out') : Reads d (bits ++ bits') d'' (out ++ out') := by
  intro s bytes rest ha
  rw [List.append_assoc] at ha
  obtain ⟨t, bytes', ht, hout, hpush⟩ := h s bytes _ ha
  obtain ⟨u, bytes'', hu, hout', hpush'⟩ := h' t bytes' rest ht
  exact ⟨u, bytes'', hu, by rw [hout', hout, List.append_assoc], hpush.trans hpush'⟩

section
variable {d : LzwDec} (hw : 9 ≤ d.width)
include hw

theorem reads_code {d' : LzwDec} {code : Code} {out : List Byte} (hcode : code.toNat < 2 ^ d.width)
    (hstep : ∀ h, lzwDecodeStep code (d.holding h) = .emit (d'.holding h) out false) :
    Reads d (bitsOfNat d.width code.toNat) d' out := by
  rintro s bytes rest ⟨hch, h, hh, hs, hbits⟩
  obtain ⟨h', bytes', hh', hbits', hpush⟩ := pushBytes_takesCode hs (by omega) hbits hcode
  refine ⟨emitOut out (atCodec (.lzwDec (d'.holding h')) s), bytes',
    ⟨hch, h', hh', ⟨hs.1, rfl, hs.2.2⟩, hbits'⟩, rfl, ?_⟩
  have hsend : lzwAnswer (.emit (d'.holding h') out false) s = emitOut out (atCodec (.lzwDec (d'.holding h')) s) :=
    (lzwAnswer_string _ out s).trans (if_neg (by simp [hch]))
  rw [hpush, hstep, hsend]

theorem reads_clear : Reads d (bitsOfNat d.width 256) { d with tab := [], tsize := 258, width := 9, last := none } [] :=
  reads_code (code := 256#12) hw (lt_of_lt_of_le (by decide) (Nat.pow_le_pow_right (by decide) hw))
    fun _ => lzwDecodeStep_clear

/-- EOD and fewer than 8 bits of padding end the stream: the last byte is read, and FINISH does not fault
(R182, R186). -/
theorem answerOf_eod {s : State} {bytes : List Byte} {pad : Nat} (ht : d.tsize ≠ 4095) (hpad : pad < 8)
    (ha : Ahead s d bytes (bitsOfNat d.width 257 ++ bitsOfNat pad 0)) :
    answerOf (unlessFaulted finishStages (pushBytes bytes s)) = (okWord, s.out) := by
  obtain ⟨hch, h, hh, hs, hbits⟩ := ha
  have h257 : (257#12 : Code).toNat < 2 ^ d.width :=
    lt_of_lt_of_le (by decide) (Nat.pow_le_pow_right (by decide) hw)
  obtain ⟨h', bytes', hh', hbits', hpush⟩ := pushBytes_takesCode (code := 257#12) hs (by omega) hbits h257
  have hnone : bytes' = [] := by
    have hlen := congrArg List.length hbits'
    simp only [List.length_append, bitsOfBytes_length, bitsOfNat_length] at hlen
    exact List.length_eq_zero_iff.1 (by omega)
  rw [hpush, hnone, pushBytes_nil, lzwDecodeStep_eod (d := d.holding h') ht, lzwEod, lzwAnswer_silent, Bool.or_true]
  set t : State := { s with codec := some (.lzwDec { d.holding h' with acc := 0, nbits := 0 }), fin := true }
  have hend : unlessFaulted finishStages t = t :=
    (if_pos hs.1).trans (finishStages_ended rfl (.inr (.inr ⟨⟨_, rfl⟩, hch⟩)))
  rw [hend]
  exact if_pos hs.1

end

/-! ## The two tables -/

/-- The decoder lags behind the encoder by the entry it cannot complete yet, and has the encoder's width (R190). -/
structure Mirrors (e : LzwEnc) (d : LzwDec) : Prop where
  tsize : d.tsize = 258 + d.tab.length
  width : d.width = e.width
  first : d.last = none → d.tab = [] ∧ e.tab = []
  lags : ∀ last, d.last = some last → ∃ x xs y ys, tabString d.tab last.toNat = x :: xs ∧ e.cand = y :: ys ∧
    e.tab = d.tab ++ [(x :: xs) ++ [y]]

/-- The candidate's code, as the decoder reads it. -/
def LzwEnc.candCode (e : LzwEnc) : Code := BitVec.ofNat 12 (tabCode e.tab e.cand)

/-- The decoder that has read the code of the encoder's candidate. -/
def LzwDec.caughtUp (e : LzwEnc) (d : LzwDec) : LzwDec :=
  { d with tab := e.tab, tsize := e.tsize, width := widthDec e.tsize, last := some e.candCode }

theorem tabString_append_left {tab more : List (List Byte)} {c : Nat} (h : c < 258 + tab.length) :
    tabString (tab ++ more) c = tabString tab c := by
  unfold tabString
  split_ifs with h1 h2
  · rfl
  · rfl
  · rw [List.getD_append _ _ _ _ (by omega)]

section
variable {e : LzwEnc} (hok : e.Ok) (hc : e.cand ≠ [])
include hok hc

theorem candCode_toNat : e.candCode.toNat = tabCode e.tab e.cand := by
  have hlt := (hok.code_lt (hok.codeMapped_cand hc)).1
  have hle := hok.tsize_le
  rw [LzwEnc.candCode, BitVec.toNat_ofNat, Nat.mod_eq_of_lt (by omega)]

theorem tabString_candCode : tabString e.tab e.candCode.toNat = e.cand := by
  rw [candCode_toNat hok hc, tabString_tabCode _ _ (hok.isTabString_cand hc)]

variable {d : LzwDec} (hm : Mirrors e d)
include hm

/-- With no code before it the candidate is a literal, and the decoder has nothing to record (R183). -/
theorem lzwStringCode_cand_first (hlast : d.last = none) :
    lzwStringCode e.candCode d = .emit (d.caughtUp e) e.cand false := by
  have hmapped := hok.codeMapped_cand hc
  have hstr := tabString_candCode hok hc
  have hwidth := hm.width.trans hok.width_eq
  obtain ⟨hdtab, hetab⟩ := hm.first hlast
  have hdsize : d.tsize = 258 := by rw [hm.tsize, hdtab]; rfl
  have hesize : e.tsize = 258 := by rw [hok.tsize_eq, hetab]; rfl
  have hlit : e.candCode.toNat < 256 := by
    rw [hetab, codeMapped, List.length_nil] at hmapped
    rw [candCode_toNat hok hc, hetab]
    omega
  have hsame : { d with tab := e.tab, tsize := e.tsize, width := widthDec e.tsize } = d := by
    rw [hesize] at hwidth ⊢
    rw [hetab, ← hdtab, ← hdsize, show widthDec d.tsize = d.width by rw [hwidth, hdsize]; rfl]
  rw [lzwStringCode_first (by omega) hlast, lzwFirst_literal hlit, ← hstr, tabString_literal _ _ hlit]
  exact congrArg (fun d' : LzwDec => Answer.emit { d' with last := some e.candCode } _ false) hsame.symm

/-- After a code the candidate is a string the decoder has, or the one it completes now (R184, R185). -/
theorem lzwStringCode_cand_normal {last : Code} (hlast : d.last = some last) :
    lzwStringCode e.candCode d = .emit (d.caughtUp e) e.cand false := by
  have hlt := (hok.code_lt (hok.codeMapped_cand hc)).1
  have hle := hok.tsize_le
  have hstr := tabString_candCode hok hc
  obtain ⟨x, xs, y, ys, hls, hcand, hetab⟩ := hm.lags last hlast
  have hsizes : e.tsize = d.tsize + 1 := by
    rw [hok.tsize_eq, hm.tsize, hetab, List.length_append]
    rfl
  rw [← candCode_toNat hok hc] at hlt
  have hcases : e.candCode.toNat < d.tsize ∧ e.cand = tabString d.tab e.candCode.toNat ∨
      e.candCode.toNat = d.tsize ∧ e.cand = (x :: xs) ++ [x] := by
    rcases Nat.lt_or_ge e.candCode.toNat d.tsize with hold | hnew
    · refine .inl ⟨hold, ?_⟩
      rw [hetab, tabString_append_left (hm.tsize ▸ hold)] at hstr
      exact hstr.symm
    · have heq : e.candCode.toNat = d.tsize := by omega
      have hnext : e.cand = (x :: xs) ++ [y] := by
        rw [← hstr, heq, hm.tsize, tabString_recorded, hetab]
        simp
      obtain ⟨rfl, -⟩ := List.cons_eq_cons.1 (hnext.symm.trans hcand)
      exact .inr ⟨heq, hnext⟩
  rw [lzwStringCode_normal (by omega) hlast, lzwNormal_emits hls hcases hcand, LzwDec.caughtUp, hetab, hsizes]

/-- `DecodeStep` on the candidate's code emits the candidate. -/
theorem lzwDecodeStep_cand : lzwDecodeStep e.candCode d = .emit (d.caughtUp e) e.cand false := by
  have hmapped := hok.codeMapped_cand hc
  rw [← candCode_toNat hok hc, codeMapped] at hmapped
  have hne : e.candCode.toNat ≠ 256 ∧ e.candCode.toNat ≠ 257 := by omega
  rw [lzwDecodeStep_string (mt (congrArg BitVec.toNat) hne.1) (mt (congrArg BitVec.toNat) hne.2)]
  cases hlast : d.last with
  | none => exact lzwStringCode_cand_first hok hc hm hlast
  | some last => exact lzwStringCode_cand_normal hok hc hm hlast

theorem reads_cand : Reads d (bitsOfNat e.width (tabCode e.tab e.cand)) (d.caughtUp e) e.cand := by
  have hfits := (hok.code_lt (hok.codeMapped_cand hc)).2
  have hw : 9 ≤ e.width := hok.width_eq ▸ (widthEnc_range _).1
  rw [← candCode_toNat hok hc, ← hm.width] at hfits ⊢
  rw [← hm.width] at hw
  exact reads_code hw hfits fun h =>
    lzwDecodeStep_cand (d := d.holding h) hok hc ⟨hm.tsize, hm.width, hm.first, hm.lags⟩

end

/-! ## One byte -/

/-- An encoder whose opening CLEAR is written and a decoder that has read what it wrote. -/
structure InStep (e : LzwEnc) (d : LzwDec) : Prop where
  ok : e.Ok
  opened : e.lead = false
  mirrors : Mirrors e d

/-- The encoder `e` takes `data` and becomes `r`: what it writes brings the decoder `d` in step with it again, and all
but the new candidate has been emitted. -/
def Advances (e : LzwEnc) (d : LzwDec) (data : List Byte) (r : LzwEnc × List Byte) : Prop :=
  ∃ bits d' out, Writes e bits r ∧ Reads d bits d' out ∧ InStep r.1 d' ∧ e.cand ++ data = out ++ r.1.cand

theorem Advances.trans {e : LzwEnc} {d : LzwDec} {data data' : List Byte} {r r' : LzwEnc × List Byte}
    (h : Advances e d data r) (h' : ∀ d', InStep r.1 d' → Advances r.1 d' data' r') :
    Advances e d (data ++ data') (r'.1, r.2 ++ r'.2) := by
  obtain ⟨bits, d', out, hw, hr, hs, hdata⟩ := h
  obtain ⟨bits', d'', out', hw', hr', hs', hdata'⟩ := h' d' hs
  refine ⟨_, d'', _, hw.trans hw', hr.trans hr', hs', ?_⟩
  rw [← List.append_assoc, hdata, List.append_assoc, hdata', List.append_assoc]

/-- The decoder's threshold is one entry below the encoder's (R190). -/
theorem widthDec_eq_widthEnc_succ {t : Nat} (ht : t ≤ 4094) : widthDec t = widthEnc (t + 1) := by
  unfold widthDec widthEnc
  split_ifs <;> omega

section
variable {e : LzwEnc} {b : Byte}

/-- A candidate that a byte does not extend is not empty: a single byte is a string of the table. -/
theorem cand_ne_nil (hnew : ¬ isTabString e.tab (e.cand ++ [b]) = true) : e.cand ≠ [] :=
  fun hnil => hnew ((isTabString_iff _).2 (.inl (by rw [hnil]; rfl)))

/-- A byte keeps what holds of an encoder that owes no opening CLEAR (R46). -/
theorem lzwEncByte_ok (hok : e.Ok) (hl : e.lead = false) : (lzwEncByte b e).1.Ok := by
  have hlead : ¬ (lzwEncByte b e).1.lead = true := by simp [lzwEncByte_lead, hl]
  have hsingle (tab : List (List Byte)) : isTabString tab [b] = true := (isTabString_iff _).2 (.inl rfl)
  by_cases hin : isTabString e.tab (e.cand ++ [b]) = true
  · rw [lzwEncByte_extends hin] at hlead ⊢
    obtain ⟨h2, hn, hsize, hle, hw, hacc, hnbits, -, -⟩ := hok
    exact ⟨h2, hn, hsize, hle, hw, hacc, hnbits, .inr hin, fun h => absurd h hlead⟩
  · have hc := cand_ne_nil hin
    rw [lzwEncByte_records hin] at hlead ⊢
    by_cases ht : e.tsize + 1 = 4096
    · obtain ⟨hheld, -⟩ := lzwWriteCand_full_writes hok (e.tab ++ [e.cand ++ [b]]) [b] hc ht
      rw [lzwWriteCand_full _ _ ht] at hlead hheld ⊢
      exact ⟨by simp, List.nodup_nil, rfl, show 258 ≤ 4095 by decide, rfl, hheld.2, hheld.1, .inr (hsingle _),
        fun h => absurd h hlead⟩
    · obtain ⟨hheld, -⟩ := lzwWriteCand_grows_writes hok (e.tab ++ [e.cand ++ [b]]) [b] hc ht
      rw [lzwWriteCand_grows hok _ _ ht] at hlead hheld ⊢
      obtain ⟨h2, hn, hsize, hle, -⟩ := hok
      obtain ⟨hlen, hmem⟩ := not_or.1 (mt (isTabString_iff _).2 hin)
      refine ⟨?lengths, ?nodup, ?size, ?bound, rfl, hheld.2, hheld.1, .inr (hsingle _), fun h => absurd h hlead⟩
      case lengths =>
        intro str hstr
        obtain hold | hlast := List.mem_append.1 hstr
        · exact h2 str hold
        · rw [List.mem_singleton.1 hlast]
          rw [List.length_append, List.length_singleton] at hlen ⊢
          omega
      case nodup => exact hn.append (List.nodup_singleton _) (List.disjoint_singleton.2 hmem)
      case size =>
        change e.tsize + 1 = 258 + (e.tab ++ [e.cand ++ [b]]).length
        rw [hsize, List.length_append]
        rfl
      case bound =>
        change e.tsize + 1 ≤ 4095
        omega

variable {d : LzwDec}

/-- CLEAR after the candidate, in the 12 bits both sides are at when the table is full (R180, R191). -/
theorem reads_cand_clear (hok : e.Ok) (hc : e.cand ≠ []) (hm : Mirrors e d) (ht : e.tsize + 1 = 4096) :
    Reads d (bitsOfNat e.width (tabCode e.tab e.cand) ++ bitsOfNat 12 256)
      { d with tab := [], tsize := 258, width := 9, last := none } e.cand := by
  have hw : (d.caughtUp e).width = 12 := by
    rw [LzwDec.caughtUp, show e.tsize = 4095 by omega]
    rfl
  have hclear := reads_clear (d := d.caughtUp e) (by rw [hw]; decide)
  rw [hw] at hclear
  have hreads := (reads_cand hok hc hm).trans hclear
  rwa [List.append_nil] at hreads

/-- After CLEAR, and at the start, both tables are empty. -/
theorem mirrors_initial {e : LzwEnc} {d : LzwDec} (htab : e.tab = []) (hwidth : e.width = 9) (hdtab : d.tab = [])
    (hdsize : d.tsize = 258) (hdwidth : d.width = 9) (hlast : d.last = none) : Mirrors e d where
  tsize := by rw [hdsize, hdtab]; rfl
  width := hdwidth.trans hwidth.symm
  first _ := ⟨hdtab, htab⟩
  lags last h := by simp [hlast] at h

/-- The decoder lags by the entry the encoder has just recorded. -/
theorem mirrors_caughtUp (hok : e.Ok) (hc : e.cand ≠ []) (ht : e.tsize + 1 ≠ 4096) :
    Mirrors { e.counted (e.tab ++ [e.cand ++ [b]]) [b] with width := widthEnc (e.tsize + 1) } (d.caughtUp e) where
  tsize := hok.tsize_eq
  width := widthDec_eq_widthEnc_succ (by have := hok.tsize_le; omega)
  first h := by simp [LzwDec.caughtUp] at h
  lags last h := by
    obtain rfl : e.candCode = last := Option.some.inj h
    obtain ⟨x, xs, hcand⟩ := List.exists_cons_of_ne_nil hc
    refine ⟨x, xs, b, [], (tabString_candCode hok hc).trans hcand, rfl, ?_⟩
    rw [← hcand]
    rfl

/-- One byte: extended, recorded, or recorded in a table that is then full (R189, R191). -/
theorem advances_byte (h : InStep e d) : Advances e d [b] (lzwEncByte b e) := by
  obtain ⟨hok, hl, hm⟩ := h
  have hok' := lzwEncByte_ok (b := b) hok hl
  have hl' := (lzwEncByte_lead b e).trans hl
  by_cases hin : isTabString e.tab (e.cand ++ [b]) = true
  · rw [lzwEncByte_extends hin] at hok' hl' ⊢
    refine ⟨[], d, [], Writes.refl hok.holdsUnderByte, Reads.refl d, ⟨hok', hl', ?_⟩, rfl⟩
    refine ⟨hm.tsize, hm.width, hm.first, fun last hlast => ?_⟩
    obtain ⟨x, xs, y, ys, hls, hcand, htab⟩ := hm.lags last hlast
    exact ⟨x, xs, y, ys ++ [b], hls, congrArg (· ++ [b]) hcand, htab⟩
  · have hc := cand_ne_nil hin
    rw [lzwEncByte_records hin] at hok' hl' ⊢
    by_cases ht : e.tsize + 1 = 4096
    · have hwrites := lzwWriteCand_full_writes hok (e.tab ++ [e.cand ++ [b]]) [b] hc ht
      rw [lzwWriteCand_full _ _ ht] at hok' hl' hwrites ⊢
      exact ⟨_, _, e.cand, hwrites, reads_cand_clear hok hc hm ht,
        ⟨hok', hl', mirrors_initial rfl rfl rfl rfl rfl rfl⟩, rfl⟩
    · have hwrites := lzwWriteCand_grows_writes hok (e.tab ++ [e.cand ++ [b]]) [b] hc ht
      rw [lzwWriteCand_grows hok _ _ ht] at hok' hl' hwrites ⊢
      exact ⟨_, _, e.cand, hwrites, reads_cand hok hc hm, ⟨hok', hl', mirrors_caughtUp hok hc ht⟩, rfl⟩

end

/-! ## The whole input -/

/-- The bytes of a payload, one after the other (R63, R189). -/
def lzwEncBytes : List Byte → LzwEnc → LzwEnc × List Byte
  | [], e => (e, [])
  | b :: bs, e =>
    ((lzwEncBytes bs (lzwEncByte b e).1).1, (lzwEncByte b e).2 ++ (lzwEncBytes bs (lzwEncByte b e).1).2)

theorem advances_bytes (data : List Byte) {e : LzwEnc} {d : LzwDec} (h : InStep e d) :
    Advances e d data (lzwEncBytes data e) := by
  induction data generalizing e d with
  | nil => exact ⟨[], d, [], Writes.refl h.ok.holdsUnderByte, Reads.refl d, h, List.append_nil _⟩
  | cons b bs ih => exact (advances_byte h).trans fun d' hs => ih hs

/-- An encoder with an empty table and no candidate that owes no opening CLEAR. -/
theorem inStep_initial {e : LzwEnc} (hheld : e.HoldsUnderByte) (hlead : e.lead = false) (htab : e.tab = [])
    (hsize : e.tsize = 258) (hwidth : e.width = 9) (hcand : e.cand = []) : InStep e lzwDecInit where
  ok := by
    obtain ⟨hnbits, hacc⟩ := hheld
    refine ⟨?_, ?_, ?_, ?_, ?_, hacc, hnbits, .inl hcand, fun h => absurd (h.symm.trans hlead) (by decide)⟩
    · simp [htab]
    · simp [htab]
    · rw [hsize, htab]; rfl
    · rw [hsize]; omega
    · rw [hwidth, hsize]; rfl
  opened := hlead
  mirrors := mirrors_initial htab hwidth rfl rfl rfl rfl

/-- The opening CLEAR, where it is owed, leaves the decoder as START created it (R181, R188). -/
theorem advances_opening (lead : Bool) :
    Advances (lzwEncInit lead) lzwDecInit [] (lzwOpening (lzwEncInit lead)) := by
  have hheld : (lzwEncInit lead).HoldsUnderByte := ⟨Nat.zero_le 7, Nat.zero_lt_one⟩
  cases lead with
  | false =>
    exact ⟨[], lzwDecInit, [], Writes.refl hheld, Reads.refl _, inStep_initial hheld rfl rfl rfl rfl rfl, rfl⟩
  | true =>
    have hclear : Writes (lzwEncInit true) (bitsOfNat 9 256) (writeCode 256 (lzwEncInit true)) :=
      writeCode_writes hheld (show 256 < 2 ^ 9 by decide)
    have hwrites : Writes (lzwEncInit true) (bitsOfNat 9 256) (lzwOpening (lzwEncInit true)) := hclear
    exact ⟨_, lzwDecInit, [], hwrites, reads_clear (d := lzwDecInit) le_rfl,
      inStep_initial hwrites.1 rfl rfl rfl rfl rfl, rfl⟩

theorem answerOf_reads_eod {s : State} {d d' : LzwDec} {bytes out : List Byte} {bits : List Bool} {pad : Nat}
    (hr : Reads d bits d' out) (hw : 9 ≤ d'.width) (ht : d'.tsize ≠ 4095) (hpad : pad < 8)
    (ha : Ahead s d bytes (bits ++ (bitsOfNat d'.width 257 ++ bitsOfNat pad 0))) :
    answerOf (unlessFaulted finishStages (pushBytes bytes s)) = (okWord, s.out ++ out) := by
  obtain ⟨t, bytes', ha', hout, hpush⟩ := hr s bytes _ ha
  rw [hpush, answerOf_eod hw ht hpad ha', hout]

/-- FINISH of an encode: the decoder emits the last candidate and reads EOD (R192, R193). -/
theorem finish_reads {e : LzwEnc} {d : LzwDec} (h : InStep e d) :
    ∃ bits, e.held ++ bits = bitsOfBytes (lzwEncFinish e).2 ∧ ∀ s bytes, Ahead s d bytes bits →
      answerOf (unlessFaulted finishStages (pushBytes bytes s)) = (okWord, s.out ++ e.cand) := by
  obtain ⟨hok, -, hm⟩ := h
  by_cases hc : e.cand = []
  · have hlast : d.last = none := by
      by_contra hsome
      obtain ⟨last, hlast⟩ := Option.ne_none_iff_exists'.1 hsome
      obtain ⟨-, -, y, ys, -, hcand, -⟩ := hm.lags last hlast
      exact List.cons_ne_nil y ys (hcand.symm.trans hc)
    have ht : d.tsize ≠ 4095 := by rw [hm.tsize, (hm.first hlast).1]; decide
    have hw : 9 ≤ d.width := by rw [hm.width, hok.width_eq]; exact (widthEnc_range _).1
    obtain ⟨pad, hpad, hbits⟩ := lzwEncFinish_nil hok hc
    rw [List.append_assoc, ← hm.width] at hbits
    refine ⟨_, hbits, fun s bytes ha => ?_⟩
    rw [hc]
    exact answerOf_reads_eod (Reads.refl d) hw ht hpad ha
  · by_cases ht : e.tsize + 1 = 4096
    · obtain ⟨pad, hpad, hbits⟩ := lzwEncFinish_full hok hc ht
      rw [List.append_assoc, List.append_assoc] at hbits
      exact ⟨_, hbits, fun s bytes ha =>
        answerOf_reads_eod (reads_cand_clear hok hc hm ht) le_rfl (show 258 ≠ 4095 by decide) hpad ha⟩
    · have hle := hok.tsize_le
      have hw : (d.caughtUp e).width = widthEnc (e.tsize + 1) := widthDec_eq_widthEnc_succ (by omega)
      have hsize : (d.caughtUp e).tsize ≠ 4095 := fun hfull => ht (congrArg (· + 1) hfull)
      obtain ⟨pad, hpad, hbits⟩ := lzwEncFinish_grows hok hc ht
      rw [List.append_assoc, List.append_assoc, ← hw] at hbits
      exact ⟨_, hbits, fun s bytes ha =>
        answerOf_reads_eod (reads_cand hok hc hm) (widthDec_range _).1 hsize hpad ha⟩

/-! ## The round trip -/

/-- What an unchained encoder makes of a whole input (R188, R189, R192). -/
def lzwEncode (lead : Bool) (data : List Byte) : List Byte :=
  let o := lzwOpening (lzwEncInit lead)
  let r := lzwEncBytes data o.1
  o.2 ++ r.2 ++ (lzwEncFinish r.1).2

theorem lzwEncBytes_lead (data : List Byte) (e : LzwEnc) : (lzwEncBytes data e).1.lead = e.lead := by
  induction data generalizing e with
  | nil => rfl
  | cons b bs ih => exact (ih _).trans (lzwEncByte_lead b e)

theorem pushBytes_lzwEnc (data : List Byte) {s : State} {e : LzwEnc} (ha : s.phase = .active)
    (hc : s.codec = some (.lzwEnc e)) (hch : s.chain = false) :
    pushBytes data s = emitOut (lzwEncBytes data e).2 (atCodec (.lzwEnc (lzwEncBytes data e).1) s) := by
  induction data generalizing s e with
  | nil => rw [lzwEncBytes, emitOut_nil, atCodec_self hc, pushBytes_nil]
  | cons b bs ih =>
    rw [pushBytes_cons ha, byteStep_lzwEnc hc hch,
      ih (s := emitOut _ (atCodec (.lzwEnc (lzwEncByte b e).1) s)) ha rfl hch, lzwEncBytes, ← emitOut_emitOut]
    rfl

/-- The rest of the input to an encoder that owes no opening CLEAR, and FINISH. -/
theorem answerOf_lzwEnc_opened (data : List Byte) {s : State} {e : LzwEnc} (ha : s.phase = .active)
    (hc : s.codec = some (.lzwEnc e)) (hl : e.lead = false) (hch : s.chain = false) :
    answerOf (unlessFaulted finishStages (pushBytes data s)) =
      (okWord, s.out ++ ((lzwEncBytes data e).2 ++ (lzwEncFinish (lzwEncBytes data e).1).2)) := by
  have hpush := pushBytes_lzwEnc data ha hc hch
  set r := lzwEncBytes data e with hr
  set t := emitOut r.2 (atCodec (.lzwEnc r.1) s)
  have hact : t.phase = .active := ha
  have hfin := finishStages_lzwEnc (s := t) (e := r.1) ha rfl fun h => absurd (h.symm.trans hch) (by decide)
  rw [lzwOpening_opened (hr ▸ (lzwEncBytes_lead data e).trans hl), List.nil_append] at hfin
  rw [hpush, unlessFaulted, if_pos hact, hfin, ← List.append_assoc]
  exact if_pos ha

theorem answerOf_lzwEnc (data : List Byte) {s : State} {lead : Bool} (ha : s.phase = .active)
    (hc : s.codec = some (.lzwEnc (lzwEncInit lead))) (hch : s.chain = false) :
    answerOf (unlessFaulted finishStages (pushBytes data (openStream s))) = (okWord, s.out ++ lzwEncode lead data) := by
  set o := lzwOpening (lzwEncInit lead) with ho
  have hrest := answerOf_lzwEnc_opened data (s := emitOut o.2 (atCodec (.lzwEnc o.1) s)) ha rfl
    (lzwOpening_lead _) hch
  rw [openStream_lzwEnc hc, ← ho, hrest, lzwEncode, emitOut_out, atCodec_out, List.append_assoc, List.append_assoc]

/-- What the decoder makes of the encoder's output. -/
theorem answerOf_lzwDec (lead : Bool) (data : List Byte) {s : State} (hs : LzwDecoding s lzwDecInit)
    (hch : s.chain = false) :
    answerOf (unlessFaulted finishStages (pushBytes (lzwEncode lead data) s)) = (okWord, s.out ++ data) := by
  unfold lzwEncode
  obtain ⟨bits, d, out, ⟨-, hwrites⟩, hreads, hstep, hdata⟩ :=
    (advances_opening lead).trans fun d' h => advances_bytes data h
  obtain ⟨last, hlast, hfin⟩ := finish_reads hstep
  dsimp only at hwrites hstep hdata hlast hfin ⊢
  set o := lzwOpening (lzwEncInit lead)
  set r := lzwEncBytes data o.1
  have hbits : bitsOfBytes (o.2 ++ r.2 ++ (lzwEncFinish r.1).2) = bits ++ last := by
    rw [bitsOfBytes_append, ← hlast, ← List.append_assoc, ← hwrites]
    rfl
  obtain ⟨t, bytes, ht, hout, hpush⟩ := hreads s _ last ⟨hch, [], by decide, hs, hbits⟩
  rw [hpush, hfin t bytes ht, hout, List.append_assoc, ← hdata]
  rfl

/-- `codes_of_started` for a unit that may owe an opening CLEAR: the whole input comes after it (R66, R188). -/
theorem codes_of_opened {unit : CodecUnit} {dir : Direction} {s : State} {b out : List Byte}
    (h : startChecks s.cfg unit dir (latchOf s) = true)
    (hrun : answerOf (unlessFaulted finishStages (pushBytes b (openStream (started unit dir s)))) = (okWord, out)) :
    Codes unit dir s b out := by
  rintro chunks rfl hfit
  have hout : (startWith unit dir (createdCodec unit dir) (present [] [] s)).out = [] := by
    rw [startWith_cases]
    split <;> rfl
  have hwhole : answerOf (wholeInput chunks.flatten (startWith unit dir (createdCodec unit dir) (present [] [] s))) =
      (okWord, out) := hrun
  rw [outcome_eq_invocationAnswer unit dir hfit, invocationAnswer]
  simp [h, hwhole, hout, withSent]

/-- With `L_PRED = 1` there is nothing for START to check, and no predictor is attached (R33, R250). -/
theorem startChecks_lzw (cfg : Config) (dir : Direction) {l : Latches} (h : l.pred = 1#32) :
    startChecks cfg .lzw dir l = true := by
  simp [startChecks, predictorOn, Latches.predLegal, h]

/-- Settles O48: the encoder's output is `lzwEncode`, and the decoder reads it back. -/
theorem lzwRoundTrip : Obligations.LzwRoundTrip := by
  unfold Obligations.LzwRoundTrip
  intro s b hpred
  have hcheck (dir : Direction) : startChecks s.cfg .lzw dir (latchOf s) = true := startChecks_lzw _ _ hpred
  have hchain (dir : Direction) : (started .lzw dir s).chain = false := by
    rw [started_eq (hcheck dir)]
    simp [latchOf, hpred]
  refine ⟨lzwEncode (latchOf s).leadclr b, ?encode, ?decode⟩
  case encode =>
    have hstart : (started .lzw .enc s).phase = .active ∧
        (started .lzw .enc s).codec = some (.lzwEnc (lzwEncInit (latchOf s).leadclr)) := by
      rw [started_eq (hcheck .enc)]
      exact ⟨rfl, rfl⟩
    refine codes_of_opened (hcheck .enc) ?_
    rw [answerOf_lzwEnc b hstart.1 hstart.2 (hchain .enc), started_out, List.nil_append]
  case decode =>
    have hstart : LzwDecoding (started .lzw .dec s) lzwDecInit := by
      rw [started_eq (hcheck .dec)]
      exact ⟨rfl, rfl, rfl⟩
    refine codes_of_started (hcheck .dec) (opened_of_codec hstart.2.1 fun _ => Codec.noConfusion) ?_
    rw [answerOf_lzwDec _ b hstart (hchain .dec), started_out, List.nil_append]

end Sys2Proof.Machine
end

section
/-! # The tag of a PNG unit (R100, R227, R230)

Every row of PNGTAG does what PNG decode does with a unit that opens with the row's tag. The tags 5 to 255 have no
filter, so PNG decode of such a unit is the fault of its tag. -/

namespace Sys2Proof.Machine

theorem filterOfTag_bad {tag : Nat} (h : 5 ≤ tag) : filterOfTag tag = none := by
  match tag, h with
  | _ + 5, _ => rfl

theorem filterOfTag_legal {tag : Nat} (h : tag ≤ 4) : ∃ f, filterOfTag tag = some f := by
  match tag, h with
  | 0, _ => exact ⟨_, rfl⟩
  | 1, _ => exact ⟨_, rfl⟩
  | 2, _ => exact ⟨_, rfl⟩
  | 3, _ => exact ⟨_, rfl⟩
  | 4, _ => exact ⟨_, rfl⟩

theorem pngDecodeUnit_legal {tag : Byte} {f : PngFilter} (h : filterOfTag tag.toNat = some f) (l : Latches)
    (prev data : List Byte) : pngDecodeUnit l prev (tag :: data) = pngDecodeRow f l prev data := by
  simp only [pngDecodeUnit, h]

theorem pngDecodeUnit_bad {tag : Byte} (h : 5 ≤ tag.toNat) (l : Latches) (prev data : List Byte) :
    pngDecodeUnit l prev (tag :: data) = pngBadTag tag := by
  simp only [pngDecodeUnit, filterOfTag_bad h]

/-- The row of `i` applies the rule of a unit that opens with `tag`. -/
def PngRowRuns (i : Instr) (tag : Byte) : Prop :=
  ∃ rule, (∀ s, exec i s = pngSymbol tag rule s) ∧
    ∀ l prev data, rule l prev data = pngDecodeUnit l prev (tag :: data)

section
variable {i : Instr} {tag : Byte}

theorem pngRowRuns_legal {f : PngFilter} (hx : ∀ s, exec i s = pngSymbol tag (pngDecodeRow f) s)
    (h : filterOfTag tag.toNat = some f) : PngRowRuns i tag :=
  ⟨pngDecodeRow f, hx, fun l prev data => (pngDecodeUnit_legal h l prev data).symm⟩

theorem pngRowRuns_bad (hx : ∀ s, exec i s = pngSymbol tag (fun _ _ _ => pngBadTag tag) s) (h : 5 ≤ tag.toNat) :
    PngRowRuns i tag :=
  ⟨fun _ _ _ => pngBadTag tag, hx, fun l prev data => (pngDecodeUnit_bad h l prev data).symm⟩

/-- Each row of the format, its block read off `wf` (R107). -/
theorem pngRowRuns_of_encode (hw : i.wf = true) (he : encode i = .pngtag tag) : PngRowRuns i tag := by
  cases i <;> simp only [encode, reduceCtorEq, Enc.pngtag.injEq] at he <;> subst he
  case pngtagNone00 | pngtagSub01 | pngtagUp02 | pngtagAvg03 | pngtagPaeth04 =>
    exact pngRowRuns_legal (fun _ => rfl) rfl
  case pngtagBad05 =>
    exact pngRowRuns_bad (fun _ => rfl) (by decide)
  case pngtagBad06to07 | pngtagBad08to0F | pngtagBad10to1F | pngtagBad20to3F | pngtagBad40to7F | pngtagBad80toFF =>
    exact pngRowRuns_bad (fun _ => rfl) (by have := block_range hw; omega)

/-- Every row of PNGTAG sends the unit in `CUR` as PNG decode does. -/
theorem exec_pngtag {s : State} {data prev : List Byte} (h : PngDecoding s tag data prev) (hw : i.wf = true)
    (he : encode i = .pngtag tag) :
    exec i s = .next (rowAnswer (pngDecodeUnit s.latch prev (tag :: data)) s) := by
  obtain ⟨rule, hx, hrule⟩ := pngRowRuns_of_encode hw he
  rw [hx, pngSymbol_decoding h, hrule]
end

/-- Settles O50: such a tag has no filter. -/
theorem pngBadTagFaults : Obligations.PngBadTagFaults := by
  unfold Obligations.PngBadTagFaults
  intro s i tag data prev h hw he htag
  rw [exec_pngtag h hw he, pngDecodeUnit_bad htag]
  rfl

end Sys2Proof.Machine
end

section
/-! # The predictor round trip (R232)

An invocation of PRED alone is followed row by row, the same way in both directions: bytes that leave the unit of work
short only wait, the byte that completes it sends the row and leaves `CUR` empty, and FINISH sends a short final row
(`RowsCoded`). The row rules of the two directions undo each other and keep the same `PREV`, so cutting the input into
rows gives a wire that decodes back, row by row. -/

namespace Sys2Proof.Machine

/-! ## PUSH and FINISH of PRED alone -/

/-- PRED alone is at work with these buffers (R43). -/
structure Predicting (s : State) (r : Rows) : Prop where
  phase : s.phase = .active
  codec : s.codec = some .pred
  chain : s.chain = false
  rows : s.rows = some r

/-- `s` with other buffers. -/
def atRows (r : Rows) (s : State) : State := { s with rows := some r }

theorem atRows_self {r : Rows} {s : State} (h : s.rows = some r) : atRows r s = s := by
  rw [atRows, ← h]

theorem predSink_unchained {s : State} (h : s.chain = false) (bytes : List Byte) :
    predSink bytes s = emitOut bytes s := by
  simp [predSink, h]

theorem byteStep_pred {s : State} (hc : s.codec = some .pred) (x : Byte) : byteStep x s = predByte x s := by
  simp [byteStep, hc]

theorem finishStages_pred {s : State} (hc : s.codec = some .pred) : finishStages s = predFinish s := by
  simp [finishStages, hc]

section
variable {s : State} {r : Rows} {cur prev prev' out : List Byte}

theorem Predicting.atRows (h : Predicting s r) (r' : Rows) : Predicting (atRows r' s) r' :=
  ⟨h.phase, h.codec, h.chain, rfl⟩

theorem Predicting.emitOut (h : Predicting s r) (bytes : List Byte) : Predicting (emitOut bytes s) r :=
  ⟨h.phase, h.codec, h.chain, h.rows⟩

/-- A row that leaves the block, and the buffers after it. -/
theorem Predicting.rowAnswer_emit (h : Predicting s r) (prev' out : List Byte) :
    rowAnswer (.emit prev' out false) s = Machine.emitOut out (Machine.atRows { cur := [], prev := prev' } s) :=
  predSink_unchained (s := Machine.atRows _ s) h.chain out

theorem predByte_joins (h : Predicting s { cur := cur, prev := prev }) {x : Byte}
    (hlen : cur.length + 1 ≠ s.latch.unitBytes s.dir) :
    predByte x s = atRows { cur := cur ++ [x], prev := prev } s := by
  simp [predByte, h.rows, hlen, atRows]

theorem predByte_completes (h : Predicting s { cur := cur, prev := prev }) {x : Byte}
    (hlen : cur.length + 1 = s.latch.unitBytes s.dir) :
    predByte x s = rowAnswer (rowRule s.latch s.dir prev (cur ++ [x])) s := by
  simp [predByte, h.rows, hlen]

/-- Bytes that leave the unit short only wait (R212, R214). -/
theorem pushBytes_pred_joins {bs : List Byte} (h : Predicting s { cur := cur, prev := prev })
    (hlen : cur.length + bs.length < s.latch.unitBytes s.dir) :
    pushBytes bs s = atRows { cur := cur ++ bs, prev := prev } s := by
  induction bs generalizing s cur with
  | nil => rw [List.append_nil, atRows_self h.rows, pushBytes_nil]
  | cons b bs ih =>
    rw [List.length_cons] at hlen
    have hlen' : (cur ++ [b]).length + bs.length < s.latch.unitBytes s.dir := by
      rw [List.length_append, List.length_singleton]
      omega
    rw [pushBytes_cons h.phase, byteStep_pred h.codec, predByte_joins h (by omega), ih (h.atRows _) hlen',
      List.append_assoc]
    rfl

/-- A whole unit leaves as its row (R214). -/
theorem pushBytes_pred_row {unit : List Byte} (h : Predicting s { cur := [], prev := prev }) (hne : unit ≠ [])
    (hlen : unit.length = s.latch.unitBytes s.dir)
    (hrow : rowRule s.latch s.dir prev unit = .emit prev' out false) :
    pushBytes unit s = emitOut out (atRows { cur := [], prev := prev' } s) := by
  obtain ⟨waiting, x, rfl⟩ := (List.eq_nil_or_concat' unit).resolve_left hne
  rw [List.length_append, List.length_singleton] at hlen
  have hwait := h.atRows { cur := waiting, prev := prev }
  rw [pushBytes_append, pushBytes_pred_joins h (by rw [List.length_nil]; omega), List.nil_append,
    pushBytes_cons hwait.phase, pushBytes_nil, byteStep_pred hwait.codec, predByte_completes hwait hlen]
  exact (congrArg (rowAnswer · _) hrow).trans (hwait.rowAnswer_emit prev' out)

/-- FINISH on a row boundary does nothing (R215). -/
theorem predFinish_boundary (h : Predicting s { cur := [], prev := prev }) : predFinish s = s := by
  simp [predFinish, h.rows]

/-- Under lenient strictness a short final row leaves as a truncated row (R216, R217). -/
theorem predFinish_short (h : Predicting s { cur := cur, prev := prev }) (hne : cur ≠ [])
    (hlenient : s.latch.strict = false) (hrow : rowRule s.latch s.dir prev cur = .emit prev' out false) :
    predFinish s = emitOut out (atRows { cur := [], prev := prev' } s) := by
  simp [predFinish, h.rows, hne, hlenient, hrow, predSink_unchained, h.chain, atRows]
end

/-- What the whole input of an invocation with these latches becomes, row by row, from `prev` in `PREV` on. -/
inductive RowsCoded (l : Latches) (dir : Direction) : List Byte → List Byte → List Byte → Prop where
  | empty {prev : List Byte} : RowsCoded l dir prev [] []
  | short {prev prev' unit out : List Byte} : unit ≠ [] → unit.length < l.unitBytes dir → l.strict = false →
      rowRule l dir prev unit = .emit prev' out false → RowsCoded l dir prev unit out
  | row {prev prev' unit out rest outs : List Byte} : unit ≠ [] → unit.length = l.unitBytes dir →
      rowRule l dir prev unit = .emit prev' out false → RowsCoded l dir prev' rest outs →
      RowsCoded l dir prev (unit ++ rest) (out ++ outs)

/-- An active transaction of PRED answers `OK` with what it has emitted when its rules have ended. -/
theorem answerOf_finish_pred {s t : State} {r r' : Rows} (h : Predicting s r) (ht : Predicting t r')
    (hfin : predFinish s = t) : answerOf (unlessFaulted finishStages s) = (okWord, t.out) := by
  rw [unlessFaulted, if_pos h.phase, finishStages_pred h.codec, hfin, answerOf, if_pos ht.phase]

theorem answerOf_rowsCoded {l : Latches} {dir : Direction} {s : State} {prev b out : List Byte}
    (hb : RowsCoded l dir prev b out) (hl : s.latch = l) (hd : s.dir = dir)
    (h : Predicting s { cur := [], prev := prev }) :
    answerOf (unlessFaulted finishStages (pushBytes b s)) = (okWord, s.out ++ out) := by
  induction hb generalizing s with subst hl hd
  | empty => rw [pushBytes_nil, answerOf_finish_pred h h (predFinish_boundary h), List.append_nil]
  | @short prev prev' unit out hne hlen hlenient hrow =>
    have hwait := h.atRows { cur := unit, prev := prev }
    rw [pushBytes_pred_joins h (by rwa [List.length_nil, Nat.zero_add]), List.nil_append,
      answerOf_finish_pred hwait ((hwait.atRows _).emitOut _) (predFinish_short hwait hne hlenient hrow)]
    rfl
  | row hne hlen hrow _ ih =>
    rw [pushBytes_append, pushBytes_pred_row h hne hlen hrow,
      ih (s := emitOut _ (atRows _ s)) rfl rfl ((h.atRows _).emitOut _), emitOut_out, List.append_assoc]
    rfl

/-- With no buffers the predictor is the identity (R211). -/
theorem answerOf_pred_identity {s : State} (ha : s.phase = .active) (hc : s.codec = some .pred)
    (hch : s.chain = false) (hrows : s.rows = none) (b : List Byte) :
    answerOf (unlessFaulted finishStages (pushBytes b s)) = (okWord, s.out ++ b) := by
  have hpush : pushBytes b s = emitOut b s := by
    induction b generalizing s with
    | nil => rw [emitOut_nil, pushBytes_nil]
    | cons x xs ih =>
      have hx : predByte x s = emitOut [x] s := by simp [predByte, hrows, predSink_unchained hch]
      rw [pushBytes_cons ha, byteStep_pred hc, hx, ih (s := emitOut [x] s) ha hc hch hrows, emitOut_emitOut]
      rfl
  have hact : (emitOut b s).phase = .active := ha
  have hcodec : (emitOut b s).codec = some .pred := hc
  have hfin : predFinish (emitOut b s) = emitOut b s := by simp [predFinish, hrows]
  rw [hpush, unlessFaulted, if_pos hact, finishStages_pred hcodec, hfin, answerOf, if_pos hact, emitOut_out]

/-! ## From START on -/

section
variable {dir : Direction} {s : State} {b out : List Byte}

theorem opened_started_pred (h : startChecks s.cfg .pred dir (latchOf s) = true) : Opened (started .pred dir s) := by
  rw [started_eq h]
  cases dir <;> exact opened_of_codec rfl fun _ => Codec.noConfusion

theorem codes_pred_identity (h : startChecks s.cfg .pred dir (latchOf s) = true) (hp : s.predictor = 1#32) :
    Codes .pred dir s b b := by
  refine codes_of_started h (opened_started_pred h) ?_
  rw [answerOf_pred_identity (s := started .pred dir s), started_out, List.nil_append]
  all_goals rw [started_eq h]
  · rfl
  · rfl
  · simp [startRows, predictorOn, latchOf, hp]

theorem codes_pred_rows (h : startChecks s.cfg .pred dir (latchOf s) = true) (hp : s.predictor ≠ 1#32)
    (hb : RowsCoded (latchOf s) dir (List.replicate (latchOf s).rowBytes 0#8) b out) : Codes .pred dir s b out := by
  have hstart : Predicting (started .pred dir s)
      { cur := [], prev := List.replicate (latchOf s).rowBytes 0#8 } := by
    rw [started_eq h]
    exact ⟨rfl, by cases dir <;> rfl, rfl, by simp [startRows, predictorOn, latchOf, hp]⟩
  have hlatch : (started .pred dir s).latch = latchOf s := by rw [started_eq h]; rfl
  have hdir : (started .pred dir s).dir = dir := by rw [started_eq h]; rfl
  refine codes_of_started h (opened_started_pred h) ?_
  rw [answerOf_rowsCoded hb hlatch hdir hstart, started_out, List.nil_append]
end

/-! ## Decoding what encoding gives -/

/-- What a row gains on the wire: its tag, in the PNG family (R228, R232). -/
def Latches.tagBytes (l : Latches) : Nat := if l.png then 1 else 0

theorem tagBytes_tiff {l : Latches} (h : l.png = false) : l.tagBytes = 0 := by simp [Latches.tagBytes, h]

theorem tagBytes_png {l : Latches} (h : l.png = true) : l.tagBytes = 1 := if_pos h

/-- The same latches with another `L_PRED` (R232: the decoder may run with another value than the encoder). -/
def Latches.withPred (p : Word) (l : Latches) : Latches := { l with pred := p }

theorem unitBytes_enc (l : Latches) : l.unitBytes .enc = l.rowBytes := by simp [Latches.unitBytes]

theorem unitBytes_dec_withPred {l : Latches} {p : Word} (hp : (l.withPred p).png = l.png) :
    (l.withPred p).unitBytes .dec = l.rowBytes + l.tagBytes := by
  have hW : (l.withPred p).rowBytes = l.rowBytes := rfl
  rw [Latches.unitBytes, Latches.tagBytes, hp, hW]
  cases l.png <;> rfl

/-- Encoding a row and decoding the unit it becomes, under any value of the same family: the row again, and the same
`PREV` on both sides (R219, R227, R228, R231). -/
theorem rowRule_roundTrip {l : Latches} (htag : l.png = true → encTag l ≤ 4) (prev row : List Byte) :
    ∃ unit prev', rowRule l .enc prev row = .emit prev' unit false ∧ unit.length = row.length + l.tagBytes ∧
      ∀ p, (l.withPred p).png = l.png → rowRule (l.withPred p) .dec prev unit = .emit prev' row false := by
  cases hpng : l.png with
  | false =>
    refine ⟨tiffRow l .enc row, prev, by simp [rowRule, hpng], by simp [tagBytes_tiff hpng], fun p hp => ?_⟩
    have hdec : tiffRow (l.withPred p) .dec (tiffRow l .enc row) = row := tiffRow_dec_enc l row
    simp [rowRule, hp, hdec]
  | true =>
    obtain ⟨f, hf⟩ := filterOfTag_legal (htag hpng)
    have hread : (BitVec.ofNat 8 (encTag l)).toNat = encTag l := by
      have := htag hpng
      rw [BitVec.toNat_ofNat, Nat.mod_eq_of_lt (by omega)]
    refine ⟨BitVec.ofNat 8 (encTag l) :: pngFilterRow f l.pixelBytes prev [] row,
      if row.length = l.rowBytes then row else prev, ?_, ?_, fun p hp => ?_⟩
    · simp [rowRule, hpng, pngEncodeRow, hf]
    · simp [tagBytes_png hpng]
    · have hW : (l.withPred p).rowBytes = l.rowBytes := rfl
      have hrecon : pngRecon f (l.withPred p).pixelBytes prev [] (pngFilterRow f l.pixelBytes prev [] row) = row :=
        pngRecon_pngFilterRow f l.pixelBytes prev [] row
      simp only [rowRule, hp, if_true, pngDecodeUnit_legal ((congrArg filterOfTag hread).trans hf), pngDecodeRow,
        hrecon, pngFilterRow_length, hW]

/-- Induction over a byte sequence in rows of `n` bytes. -/
theorem rows_induction {P : List Byte → Prop} {n : Nat} (hn : 1 ≤ n) (last : ∀ bs, bs.length < n → P bs)
    (row : ∀ bs rest, bs.length = n → P rest → P (bs ++ rest)) (bs : List Byte) : P bs := by
  induction hlen : bs.length using Nat.strong_induction_on generalizing bs with subst hlen
  | h _ ih =>
    by_cases hshort : bs.length < n
    · exact last bs hshort
    · have hrest := ih (bs.drop n).length (by rw [List.length_drop]; omega) _ rfl
      simpa using row (bs.take n) (bs.drop n) (by rw [List.length_take]; omega) hrest

/-! The number of rows, full or truncated, of a byte sequence. -/

theorem rowCount_short {n m : Nat} (hpos : 0 < m) (hlt : m < n) : (m + n - 1) / n = 1 := by
  rw [show m + n - 1 = m - 1 + n by omega, Nat.add_div_right _ (by omega), Nat.div_eq_of_lt (by omega)]

theorem rowCount_row {n : Nat} (hn : 1 ≤ n) (m : Nat) : (n + m + n - 1) / n = (m + n - 1) / n + 1 := by
  rw [show n + m + n - 1 = m + n - 1 + n by omega, Nat.add_div_right _ hn]

/-- Cut into rows, the input gives a wire that decodes back, under any value of the same family (R232). -/
theorem rowsCoded_roundTrip {l : Latches} (hW : 1 ≤ l.rowBytes) (htag : l.png = true → encTag l ≤ 4)
    (b prev : List Byte) (hwhole : l.strict = false ∨ l.rowBytes ∣ b.length) :
    ∃ wire, RowsCoded l .enc prev b wire ∧
      (∀ p, (l.withPred p).png = l.png → RowsCoded (l.withPred p) .dec prev wire b) ∧
      wire.length = b.length + l.tagBytes * ((b.length + l.rowBytes - 1) / l.rowBytes) := by
  induction b using rows_induction hW generalizing prev with
  | last bs hlen =>
    by_cases hne : bs = []
    · subst hne
      have hrows : (0 + l.rowBytes - 1) / l.rowBytes = 0 := Nat.div_eq_of_lt (by omega)
      exact ⟨[], .empty, fun _ _ => .empty, by rw [List.length_nil, hrows]; rfl⟩
    · have hpos := List.length_pos_iff.2 hne
      have hlenient : l.strict = false :=
        hwhole.resolve_right fun hd => absurd (Nat.le_of_dvd hpos hd) (by omega)
      obtain ⟨unit, prev', henc, hunit, hdec⟩ := rowRule_roundTrip htag prev bs
      refine ⟨unit, .short hne (by rwa [unitBytes_enc]) hlenient henc, fun p hp => ?_,
        by rw [hunit, rowCount_short hpos hlen, mul_one]⟩
      exact .short (List.length_pos_iff.1 (by omega)) (by rw [unitBytes_dec_withPred hp]; omega) hlenient (hdec p hp)
  | row bs rest hlen ih =>
    rw [List.length_append, hlen] at hwhole
    obtain ⟨unit, prev', henc, hunit, hdec⟩ := rowRule_roundTrip htag prev bs
    obtain ⟨wire, hwire, hback, hcount⟩ := ih prev' (hwhole.imp_right (Nat.dvd_add_right (dvd_refl _)).1)
    refine ⟨unit ++ wire, .row (List.length_pos_iff.1 (by omega)) (by rwa [unitBytes_enc]) henc hwire,
      fun p hp => .row (List.length_pos_iff.1 (by omega)) ?_ (hdec p hp) (hback p hp), ?_⟩
    · rw [unitBytes_dec_withPred hp, hunit, hlen]
    · rw [List.length_append, List.length_append, hunit, hcount, hlen, rowCount_row hW]
      ring

/-! ## The checks of START (R33) -/

/-- The checks of a PRED encode pass for a decode with any legal `PREDICTOR` of the same kind. -/
theorem startChecks_dec_withPred {cfg : Config} {l : Latches} {p : Word} (h : ParametersLegal cfg .pred .enc l)
    (hp : p.toNat ∈ [1, 2, 10, 11, 12, 13, 14, 15]) (hone : p.toNat ≠ 1 → l.pred.toNat ≠ 1) :
    startChecks cfg .pred .dec (l.withPred p) = true := by
  obtain ⟨-, hworks⟩ := h
  refine (startChecks_iff _ _ _ _).2 ⟨fun _ => hp, fun ⟨_, hne⟩ => ?_⟩
  obtain ⟨hcolors, hcolumns, hbpc, hfits, -⟩ := hworks ⟨.inl rfl, hone hne⟩
  exact ⟨hcolors, hcolumns, hbpc, hfits, fun hd => Direction.noConfusion hd.1⟩

/-- Rows of a working predictor have at least one byte. -/
theorem rowBytes_pos {l : Latches} (hcolumns : 1 ≤ l.columns.toNat) (hcolors : 1 ≤ l.colors.toNat)
    (hbpc : 1 ≤ l.bpc.toNat) : 1 ≤ l.rowBytes := by
  have := Nat.mul_le_mul (Nat.mul_le_mul hcolumns hcolors) hbpc
  unfold Latches.rowBytes
  omega

/-- The tag of a PNG encode is legal (R229, R33 check 4). -/
theorem encTag_le {l : Latches} (hp : l.pred.toNat ≤ 15) (hopt : l.pred.toNat = 15 → l.opttag.toNat ≤ 4) :
    encTag l ≤ 4 := by
  have h15 := eq_iff_toNat l.pred 15 (by decide)
  unfold encTag
  split
  · exact hopt (h15.1 ‹_›)
  · have := mt h15.2 ‹_›
    omega

/-- The round trip of a working predictor, with the decoder's `PREDICTOR` free in its family. -/
theorem codes_pred_roundTrip {s : State} {b : List Byte} (h : ParametersLegal s.cfg .pred .enc (latchOf s))
    (hp : s.predictor.toNat ≠ 1) (hwhole : ctrlStrict s.ctrl = false ∨ (latchOf s).rowBytes ∣ b.length) :
    ∃ wire, Codes .pred .enc s b wire ∧
      (∀ p : Word, p.toNat ∈ [1, 2, 10, 11, 12, 13, 14, 15] → p.toNat ≠ 1 →
        (10 ≤ p.toNat ↔ 10 ≤ s.predictor.toNat) → Codes .pred .dec { s with predictor := p } wire b) ∧
      wire.length =
        b.length + (latchOf s).tagBytes * ((b.length + (latchOf s).rowBytes - 1) / (latchOf s).rowBytes) := by
  have hne (p : Word) (hone : p.toNat ≠ 1) : p ≠ 1#32 := mt (eq_iff_toNat p 1 (by decide)).1 hone
  have ⟨hlegal, hworks⟩ := h
  obtain ⟨hcolors, hcolumns, hbpc, -, hopt⟩ := hworks ⟨.inl rfl, hp⟩
  have hbpc1 : 1 ≤ s.bpc.toNat := (by decide : ∀ n ∈ [1, 2, 4, 8, 16], 1 ≤ n) _ hbpc
  have hpred15 : s.predictor.toNat ≤ 15 :=
    (by decide : ∀ n ∈ [1, 2, 10, 11, 12, 13, 14, 15], n ≤ 15) _ (hlegal (.inr rfl))
  have htag : encTag (latchOf s) ≤ 4 := encTag_le hpred15 fun h15 => hopt ⟨rfl, h15⟩
  obtain ⟨wire, henc, hdec, hlen⟩ := rowsCoded_roundTrip (rowBytes_pos hcolumns hcolors hbpc1) (fun _ => htag) b
    (List.replicate (latchOf s).rowBytes 0#8) hwhole
  refine ⟨wire, codes_pred_rows ((startChecks_iff _ _ _ _).2 h) (hne _ hp) henc, fun p hmem hone hfamily => ?_, hlen⟩
  have hpng : ((latchOf s).withPred p).png = (latchOf s).png := decide_eq_decide.2 hfamily
  exact codes_pred_rows (s := { s with predictor := p }) (startChecks_dec_withPred h hmem fun _ => hp) (hne p hone)
    (hdec p hpng)

/-- Settles O54: with `L_PRED = 1` both directions are the identity; else row by row. -/
theorem predRoundTrip : Obligations.PredRoundTrip := by
  unfold Obligations.PredRoundTrip
  intro s b h W hwhole
  have hpred : s.predictor.toNat ∈ [1, 2, 10, 11, 12, 13, 14, 15] := h.1 (.inr rfl)
  by_cases hone : s.predictor.toNat = 1
  · have h1 := (eq_iff_toNat s.predictor 1 (by decide)).2 hone
    have hdec : startChecks s.cfg .pred .dec (latchOf s) = true :=
      startChecks_dec_withPred (p := s.predictor) h hpred id
    exact ⟨b, codes_pred_identity ((startChecks_iff _ _ _ _).2 h) h1, codes_pred_identity hdec h1, fun _ => rfl,
      fun h10 => by omega⟩
  · obtain ⟨wire, henc, hdec, hlen⟩ := codes_pred_roundTrip h hone hwhole
    refine ⟨wire, henc, hdec s.predictor hpred hone Iff.rfl, fun hle => ?tiff, fun hge => ⟨?png, fun p h10 h15 => ?any⟩⟩
    case tiff =>
      rw [hlen, tagBytes_tiff (decide_eq_false (show ¬ 10 ≤ s.predictor.toNat by omega)), zero_mul, add_zero]
    case png =>
      rw [hlen, tagBytes_png (decide_eq_true hge), one_mul]
      rfl
    case any =>
      have hmem : p.toNat ∈ [1, 2, 10, 11, 12, 13, 14, 15] := by
        simp only [List.mem_cons, List.not_mem_nil, or_false]
        omega
      exact hdec p hmem (by omega) (iff_of_true h10 hge)

end Sys2Proof.Machine
end

section
/-! # Entering phase ERROR (R261, R262, R268)

What every fault leaves behind, with its two words as sums of their fields, and the one fault of START: a check of R33
that fails, which only the units with a predictor have. -/

namespace Sys2Proof.Machine

/-! ## The fault entry sequence -/

/-- `ERRINFO` of a standing fault as a sum (R24). -/
theorem errinfoWord_toNat (cause : Cause) (sym : Code) :
    (errinfoWord cause sym).toNat = cause.code.toNat + 65536 * sym.toNat := by
  simp only [errinfoWord, toNat_append_eq_add, BitVec.toNat_ofNat]
  omega

/-- The answer of a fault as a sum (R94). -/
theorem errorWord_toNat (cause : Cause) (sym : Code) :
    (errorWord cause sym).toNat = 1 + 4 * cause.kind.code.toNat + 256 * cause.code.toNat + 65536 * sym.toNat :=
  responseWord_toNat 1#2 cause.kind cause.code sym

/-- Settles O11: the table of R261 cause by cause; the entry sequence writes the two words of the fault. -/
theorem faultEntrySequence : Obligations.FaultEntrySequence := by
  unfold Obligations.FaultEntrySequence
  refine ⟨?table, fun cause sym s => ?entry⟩
  case table => intro cause; cases cause <;> decide
  case entry => exact ⟨_, _, rfl, errinfoWord_toNat cause sym, errorWord_toNat cause sym⟩

/-! ## START with a failed check -/

/-- R33 checks nothing for a unit without a predictor. -/
theorem parametersLegal_of_not_predictorUnit {cfg : Config} {unit : CodecUnit} {dir : Direction} {l : Latches}
    (h : ¬ (unit = .lzw ∨ unit = .pred)) : ParametersLegal cfg unit dir l :=
  ⟨fun hu => absurd hu h, fun ⟨hu, _⟩ => absurd hu.symm h⟩

/-- START where a check fails: latched, then faulted (R123, R262). -/
theorem exec_start_refused {unit : CodecUnit} {dir : Direction} {s : State}
    (h : ¬ ParametersLegal s.cfg unit dir (latchOf s)) :
    exec (startInstr unit dir) s = .next (faultEntry .cfgInvalid 0#12 (startLatch unit dir s)) := by
  rw [exec_start, startWith_cases, if_neg (mt (startChecks_iff _ _ _ _).1 h)]

/-- The flag `chain` of an invocation (R250). -/
theorem startLatch_chain_iff (unit : CodecUnit) (dir : Direction) (s : State) :
    (startLatch unit dir s).chain = true ↔ unit = .lzw ∧ s.predictor ≠ 1#32 := by
  simp [latchOf]

/-- Settles O14: START latches, then takes the fault `CFG_INVALID`; a unit without a predictor has no check to fail. -/
theorem startRefusesIllegalParameters : Obligations.StartRefusesIllegalParameters := by
  unfold Obligations.StartRefusesIllegalParameters
  intro unit dir s l h
  exact ⟨not_not.1 (mt parametersLegal_of_not_predictorUnit h), _, startLatch_chain_iff unit dir s,
    exec_start_refused h⟩

end Sys2Proof.Machine
end

section
/-! # The table, both ways (R92, R107)

A row of a symbol format is a block, the values that agree with its `match` under its `mask`. Two blocks that share a
value agree where both masks look, so the decoder's test for another row than the symbol's fails on the constants of the
two rows alone. -/

namespace Sys2Proof

/-! ## Decoding what is encoded -/

/-- A value of one block is in no block that differs from it where both masks look. -/
theorem not_mem_block {n : Nat} {x m p m' p' : BitVec n} (h : (x &&& m == p) = true) (hne : p &&& m' ≠ p' &&& m) :
    (x &&& m' = p') = False := by
  obtain rfl := beq_iff_eq.1 h
  refine eq_false fun h' => hne ?_
  rw [← h', BitVec.and_assoc, BitVec.and_comm m, ← BitVec.and_assoc]

/-- A value of a block is no value outside it. -/
theorem ne_of_mem_block {n : Nat} {x m p c : BitVec n} (h : (x &&& m == p) = true) (hne : c &&& m ≠ p) :
    (x = c) = False :=
  eq_false fun hc => hne (hc ▸ beq_iff_eq.1 h)

/-- Settles O1: a row of one value decodes by evaluation; for a value of a block the test of its own row holds, and each
test before it fails. -/
theorem decodeEncodeRoundTrip : Obligations.DecodeEncodeRoundTrip := by
  unfold Obligations.DecodeEncodeRoundTrip
  intro i hw
  cases i
  case a85chWs0Cto0D | a85chDigit22to23 | a85chDigit24to27 | a85chDigit28to2F | a85chDigit30to3F | a85chDigit40to5F
      | a85chDigit60to6F | a85chDigit70to73 | a85chDigit74to75 | a85chBad02to03 | a85chBad04to07 | a85chBad0Eto0F
      | a85chBad10to1F | a85chBad76to77 | a85chBad78to79 | a85chBad7Cto7D | a85chBad80toFF
      | a85chTWs0Cto0D | a85chTBad02to03 | a85chTBad04to07 | a85chTBad0Eto0F | a85chTBad10to1F | a85chTBad22to23
      | a85chTBad24to27 | a85chTBad28to2F | a85chTBad30to37 | a85chTBad38to3B | a85chTBad3Cto3D | a85chTBad40to7F
      | a85chTBad80toFF
      | ahxchWs0Cto0D | ahxchHex30to37 | ahxchHex38to39 | ahxchHex42to43 | ahxchHex44to45 | ahxchHex62to63
      | ahxchHex64to65 | ahxchBad02to03 | ahxchBad04to07 | ahxchBad0Eto0F | ahxchBad10to1F | ahxchBad22to23
      | ahxchBad24to27 | ahxchBad28to2F | ahxchBad3Ato3B | ahxchBad3Cto3D | ahxchBad48to4F | ahxchBad50to5F
      | ahxchBad68to6F | ahxchBad70to7F | ahxchBad80toFF
      | lzwcodeLit000to0FF | lzwcodeRef102to103 | lzwcodeRef104to107 | lzwcodeRef108to10F | lzwcodeRef110to11F
      | lzwcodeRef120to13F | lzwcodeRef140to17F | lzwcodeRef180to1FF | lzwcodeRef200to3FF | lzwcodeRef400to7FF
      | lzwcodeRef800toFFF
      | pngtagBad06to07 | pngtagBad08to0F | pngtagBad10to1F | pngtagBad20to3F | pngtagBad40to7F | pngtagBad80toFF =>
    simp (disch := decide) only [encode, decode, decodeA85ch, decodeA85chT, decodeAhxch, decodeLzwcode, decodePngtag,
      not_mem_block hw, ne_of_mem_block hw, eq_true (beq_iff_eq.1 hw), ↓reduceIte]
  all_goals rfl

/-! ## Encoding what is decoded -/

/-- Where the mask looks at all bits but the lowest `k`, a block is an interval. -/
theorem mem_block_iff {n : Nat} {x : BitVec n} {m p : Nat}
    (h : ∃ k, k ≤ n ∧ m + 2 ^ k = 2 ^ n ∧ p % 2 ^ k = 0 ∧ p < 2 ^ n) :
    x &&& BitVec.ofNat n m = BitVec.ofNat n p ↔ p ≤ x.toNat ∧ x.toNat < p + (2 ^ n - m) := by
  obtain ⟨k, hk, hm, hp, hlt⟩ := h
  obtain ⟨q, rfl⟩ := Nat.dvd_of_mod_eq_zero hp
  have hmask : m = (2 ^ (n - k) - 1) <<< k := by
    rw [Nat.shiftLeft_eq, Nat.sub_mul, one_mul, ← pow_add, Nat.sub_add_cancel hk]
    omega
  have hand : x.toNat &&& m = 2 ^ k * (x.toNat / 2 ^ k) := by
    refine Nat.eq_of_testBit_eq fun i => ?_
    rw [hmask, Nat.testBit_and, Nat.testBit_shiftLeft, Nat.testBit_two_pow_sub_one, Nat.testBit_two_pow_mul,
      Nat.testBit_div_two_pow]
    by_cases hi : k ≤ i
    · rw [Nat.sub_add_cancel hi]
      by_cases hin : i < n
      · simp [hi, show i - k < n - k by omega]
      · simp [Nat.testBit_lt_two_pow (lt_of_lt_of_le x.isLt (Nat.pow_le_pow_right two_pos (not_lt.1 hin)))]
    · simp [hi]
  have hmlt : m < 2 ^ n := by have := Nat.two_pow_pos k; omega
  rw [← BitVec.toNat_inj, BitVec.toNat_and, BitVec.toNat_ofNat, BitVec.toNat_ofNat, Nat.mod_eq_of_lt hlt,
    Nat.mod_eq_of_lt hmlt, hand, Nat.mul_right_inj (Nat.two_pow_pos k).ne', Nat.div_eq_iff (Nat.two_pow_pos k)]
  have hwide := Nat.two_pow_pos k
  rw [Nat.mul_comm q, show 2 ^ n - m = 2 ^ k by omega]
  omega

theorem eq_ofNat_iff {n : Nat} {x : BitVec n} {c : Nat} (h : c < 2 ^ n) : x = BitVec.ofNat n c ↔ x.toNat = c := by
  rw [← BitVec.toNat_inj, BitVec.toNat_ofNat, Nat.mod_eq_of_lt h]

/-- A decoder's answer for `e` is a well-formed instruction with that encoding. -/
def AnswersFor (e : Enc) (answer : Option Instr) : Prop := ∃ i, answer = some i ∧ encode i = e ∧ i.wf = true

/-- One test of a decoder: its row encodes the values that pass, and the rows after it answer for the others. -/
theorem answersFor_ite {e : Enc} {test : Prop} [Decidable test] {i : Instr} {rest : Option Instr}
    (hrow : test → encode i = e ∧ i.wf = true) (hrest : ¬ test → AnswersFor e rest) :
    AnswersFor e (if test then some i else rest) := by
  split
  · exact ⟨i, rfl, hrow ‹_›⟩
  · exact hrest ‹_›

/-- Every value of the five symbol formats is in one of the intervals its decoder tests (R107). -/
theorem decode_symbol {e : Enc} (h : ∀ w, e ≠ .cmd w) : AnswersFor e (decode e) := by
  cases e with
  | cmd w => exact absurd rfl (h w)
  | a85ch v | a85chT v | ahxch v | lzwcode v | pngtag v =>
    have hlt := v.isLt
    simp only [decode, decodeA85ch, decodeA85chT, decodeAhxch, decodeLzwcode, decodePngtag]
    repeat' refine answersFor_ite (fun htest => by simp [encode, Instr.wf, htest]) fun hfails => ?_
    exfalso
    clear h
    simp (disch := decide) only [mem_block_iff] at *
    simp (disch := decide) only [eq_ofNat_iff] at *
    omega

theorem encode_of_decode {e : Enc} {i : Instr} (h : decode e = some i) : encode i = e ∧ i.wf = true := by
  by_cases hcmd : ∃ w, e = .cmd w
  · obtain ⟨w, rfl⟩ := hcmd
    have htable : ∀ p ∈ Machine.commandTable, encode p.2 = .cmd p.1 ∧ p.2.wf = true := by decide
    exact htable (w, i) (Machine.mem_commandTable_of_decodeCmd h)
  · obtain ⟨i', hi', hsound⟩ := decode_symbol (not_exists.1 hcmd)
    obtain rfl := Option.some.inj (h.symm.trans hi')
    exact hsound

/-- Settles O2: command words by the table of R92, the symbols test by test. -/
theorem encodeDecodeRoundTrip : Obligations.EncodeDecodeRoundTrip := by
  unfold Obligations.EncodeDecodeRoundTrip
  refine ⟨fun e i => encode_of_decode, fun e he => ?_⟩
  obtain ⟨i, hi, -⟩ := decode_symbol he
  exact ⟨i, hi⟩

end Sys2Proof
end

section
/-! # The symbols of a PUSH are rows of the table (R90, R96 to R100)

Every symbol decodes to a well-formed instruction with its encoding, and such an instruction does what the byte, code or
unit rule does with the symbol. So PUSH runs the instruction of each symbol it takes. -/

namespace Sys2Proof.Machine

/-- What holds of every well-formed instruction with the encoding `e` holds of the one `e` decodes to. -/
theorem exists_decode {e : Enc} {P : Instr → Prop} (he : ∀ w, e ≠ .cmd w)
    (h : ∀ i : Instr, i.wf = true → encode i = e → P i) : ∃ i, decode e = some i ∧ P i := by
  obtain ⟨i, hi, henc, hw⟩ := decode_symbol he
  exact ⟨i, hi, h i hw henc⟩

/-- Settles O23: the format selected by `tilde` is the one whose rows the byte rule is read off. -/
theorem pushByteRunsA85Symbol : Obligations.PushByteRunsA85Symbol := by
  unfold Obligations.PushByteRunsA85Symbol
  intro s d b h
  rw [byteStep_a85Dec h]
  cases ht : d.tilde
  · exact exists_decode (fun _ => Enc.noConfusion) fun i hw he => exec_a85ch h ht hw he
  · exact exists_decode (fun _ => Enc.noConfusion) fun i hw he => exec_a85chT h ht hw he

/-- Settles O24: the rows of AHXCH do what the byte rule does. -/
theorem pushByteRunsAhxSymbol : Obligations.PushByteRunsAhxSymbol := by
  unfold Obligations.PushByteRunsAhxSymbol
  intro s d b h
  rw [byteStep_ahxDec h]
  exact exists_decode (fun _ => Enc.noConfusion) fun i hw he => exec_ahxch h hw he

/-- The input bits are not the answer's concern: it replaces the codec state. -/
theorem lzwAnswer_atCodec (a : Answer LzwDec) (c : Codec) (s : State) : lzwAnswer a (atCodec c s) = lzwAnswer a s := by
  cases a <;> rfl

/-- Settles O25: the rows of LZWCODE do what `DecodeStep` does. -/
theorem pushByteRunsLzwCode : Obligations.PushByteRunsLzwCode := by
  unfold Obligations.PushByteRunsLzwCode
  intro s d b h
  rw [byteStep_lzwDec h, lzwDecByte]
  refine ⟨fun code d' hread => ?code, fun d' hread => by rw [hread]⟩
  case code =>
    have hs : LzwDecoding (atCodec (.lzwDec d') s) d' := ⟨h.1, rfl, h.2.2⟩
    rw [hread]
    refine exists_decode (fun _ => Enc.noConfusion) fun i hw he => ?_
    exact (exec_lzwcode hs hw he).trans (congrArg _ (lzwAnswer_atCodec _ _ s))

/-- A row's answer replaces the buffers, whatever they held. -/
theorem rowAnswer_atRows (a : Answer (List Byte)) (r : Rows) (s : State) : rowAnswer a (atRows r s) = rowAnswer a s := by
  cases a <;> rfl

/-- The latch `L_PRED` of a PNG decode (R34). -/
theorem PngDecoding.rowRule_eq {s : State} {tag : Byte} {data prev : List Byte} (h : PngDecoding s tag data prev)
    (prev' unit : List Byte) : rowRule s.latch s.dir prev' unit = pngDecodeUnit s.latch prev' unit := by
  obtain ⟨-, hd, hl, -⟩ := h
  simp [rowRule, Latches.png, hl, hd]

theorem PngDecoding.unitBytes_eq {s : State} {tag : Byte} {data prev : List Byte} (h : PngDecoding s tag data prev) :
    s.latch.unitBytes s.dir = s.latch.rowBytes + 1 := by
  obtain ⟨-, hd, hl, -⟩ := h
  simp [Latches.unitBytes, Latches.png, hl, hd]

/-- Settles O26: the complete unit at its last byte, the short one at FINISH. -/
theorem unitRunsPngTag : Obligations.UnitRunsPngTag := by
  unfold Obligations.UnitRunsPngTag
  intro s tag x data prev h
  have ⟨ha, hd, hl, hr⟩ := h
  refine ⟨fun hlen => ?complete, fun hlenient => ?short⟩
  case complete =>
    have hs : PngDecoding (atRows { cur := tag :: data ++ [x], prev := prev } s) tag (data ++ [x]) prev :=
      ⟨ha, hd, hl, rfl⟩
    have hunit : (tag :: data ++ [x]).length = s.latch.unitBytes s.dir := hlen.trans h.unitBytes_eq.symm
    have hstep : predByte x s = rowAnswer (pngDecodeUnit s.latch prev (tag :: (data ++ [x]))) s := by
      simp only [predByte, hr, List.cons_append, h.rowRule_eq]
      exact if_pos hunit
    rw [hstep]
    refine exists_decode (fun _ => Enc.noConfusion) fun i hw he => ?_
    exact (exec_pngtag hs hw he).trans (congrArg _ (rowAnswer_atRows _ _ s))
  case short =>
    have hstep : predFinish s = rowAnswer (pngDecodeUnit s.latch prev (tag :: data)) s := by
      simp [predFinish, hr, hlenient, h.rowRule_eq]
    rw [hstep]
    exact exists_decode (fun _ => Enc.noConfusion) fun i hw he => exec_pngtag h hw he

/-! ## Symbols where no rule is to be run

A symbol class is the rule of its decoder, well-formed or not. -/

section
variable {i : Instr} {ch : Byte} {code : Code}

theorem exec_of_encode_a85 (he : encode i = .a85ch ch ∨ encode i = .a85chT ch) :
    ∃ tilde rule, ∀ s, exec i s = a85Symbol tilde rule s := by
  cases i <;> simp only [encode, reduceCtorEq, or_self] at he
  all_goals exact ⟨_, _, fun _ => rfl⟩

theorem exec_of_encode_ahx (he : encode i = .ahxch ch) : ∃ rule, ∀ s, exec i s = ahxSymbol rule s := by
  cases i <;> simp only [encode, reduceCtorEq] at he
  all_goals exact ⟨_, fun _ => rfl⟩

theorem exec_of_encode_lzw (he : encode i = .lzwcode code) : ∃ rule, ∀ s, exec i s = lzwSymbol rule s := by
  cases i <;> simp only [encode, reduceCtorEq] at he
  all_goals exact ⟨_, fun _ => rfl⟩

end

section
variable {s : State} (ha : s.phase ≠ .active)
include ha

theorem a85Symbol_inactive (tilde : Bool) (rule : A85Dec → Answer A85Dec) :
    a85Symbol tilde rule s = .refused .outOfContext := by
  unfold a85Symbol
  split
  · exact absurd ‹_› ha
  · rfl

theorem ahxSymbol_inactive (rule : AhxDec → Answer AhxDec) : ahxSymbol rule s = .refused .outOfContext := by
  unfold ahxSymbol
  split
  · exact absurd ‹_› ha
  · rfl

theorem lzwSymbol_inactive (rule : LzwDec → Answer LzwDec) : lzwSymbol rule s = .refused .outOfContext := by
  unfold lzwSymbol
  split
  · exact absurd ‹_› ha
  · rfl

theorem pngSymbol_inactive (tag : Byte) (rule : Latches → List Byte → List Byte → Answer (List Byte)) :
    pngSymbol tag rule s = .refused .outOfContext := by
  unfold pngSymbol
  split
  · exact absurd ‹_› ha
  · rfl

theorem exec_pngtag_inactive {i : Instr} {tag : Byte} (he : encode i = .pngtag tag) :
    exec i s = .refused .outOfContext := by
  cases i <;> simp only [encode, reduceCtorEq] at he
  case pngtagNone00 | pngtagSub01 | pngtagUp02 | pngtagAvg03 | pngtagPaeth04 =>
    exact pngSymbol_inactive ha _ (pngDecodeRow _)
  all_goals exact pngSymbol_inactive ha _ fun _ _ _ => pngBadTag _

end

/-- Settles O27: the four ways a symbol is taken all ask for phase ACTIVE. -/
theorem symbolsStopOutsideInvocation : Obligations.SymbolsStopOutsideInvocation := by
  unfold Obligations.SymbolsStopOutsideInvocation
  intro s i ha he
  cases hi : encode i with
  | cmd w => exact absurd hi (he w)
  | a85ch ch =>
    obtain ⟨tilde, rule, hx⟩ := exec_of_encode_a85 (.inl hi)
    exact (hx s).trans (a85Symbol_inactive ha tilde rule)
  | a85chT ch =>
    obtain ⟨tilde, rule, hx⟩ := exec_of_encode_a85 (.inr hi)
    exact (hx s).trans (a85Symbol_inactive ha tilde rule)
  | ahxch ch =>
    obtain ⟨rule, hx⟩ := exec_of_encode_ahx hi
    exact (hx s).trans (ahxSymbol_inactive ha rule)
  | lzwcode code =>
    obtain ⟨rule, hx⟩ := exec_of_encode_lzw hi
    exact (hx s).trans (lzwSymbol_inactive ha rule)
  | pngtag tag => exact exec_pngtag_inactive ha hi

/-! ## After the terminator (R79, R144) -/

/-- A decoder has consumed its terminator. -/
def DecodingEnded (s : State) : Prop :=
  s.fin = true ∧ ((∃ d, s.codec = some (.a85Dec d)) ∨ (∃ d, s.codec = some (.ahxDec d)) ∨
    (∃ d, s.codec = some (.lzwDec d)))

section
variable {s : State} (h : DecodingEnded s)
include h

theorem byteStep_ended (b : Byte) : byteStep b s = s := by
  obtain ⟨hf, ⟨d, hc⟩ | ⟨d, hc⟩ | ⟨d, hc⟩⟩ := h <;> simp [byteStep, hc, hf]

theorem pushBytes_ended (ha : s.phase = .active) (bytes : List Byte) : pushBytes bytes s = s := by
  induction bytes with
  | nil => rfl
  | cons b bs ih => rw [pushBytes_cons ha, byteStep_ended h, ih]

theorem openStream_ended : openStream s = s := by
  refine openStream_other fun e he => ?_
  obtain ⟨-, ⟨d, hc⟩ | ⟨d, hc⟩ | ⟨d, hc⟩⟩ := h <;> cases hc.symm.trans he

end

theorem exec_push_ended {s : State} (h : DecodingEnded s) (ha : s.phase = .active) (hf : PayloadFits s) :
    exec .push s = .next { s with inp := [], out := [], rsp := 0#32 } := by
  obtain ⟨c, hc⟩ : ∃ c, s.codec = some c := by
    obtain ⟨-, ⟨d, hc⟩ | ⟨d, hc⟩ | ⟨d, hc⟩⟩ := h <;> exact ⟨_, hc⟩
  have h' : DecodingEnded { s with out := [] } := h
  rw [show exec .push s = execPush s from rfl, execPush_active ha hc hf, pushActive_eq, openStream_ended h',
    pushBytes_ended h' ha, answerPush, if_pos ha]
  rfl

/-- Settles O20: neither the byte rules nor the symbol classes of a decoder look at anything once `fin` is set. -/
theorem inputAfterTerminatorIgnored : Obligations.InputAfterTerminatorIgnored := by
  unfold Obligations.InputAfterTerminatorIgnored
  intro s c ha hc hf
  have hended (hdec : (∃ d, c = .a85Dec d) ∨ (∃ d, c = .ahxDec d) ∨ (∃ d, c = .lzwDec d)) : DecodingEnded s :=
    ⟨hf, by simpa only [hc, Option.some.injEq] using hdec⟩
  refine ⟨fun hdec hfit => exec_push_ended (hended hdec) ha hfit, fun hdec b => byteStep_ended (hended hdec) b,
    ?a85, ?ahx, ?lzw⟩
  case a85 =>
    rintro i ch ⟨d, rfl⟩ he
    obtain ⟨tilde, rule, hx⟩ := exec_of_encode_a85 he
    simp [hx, a85Symbol, ha, hc, hf]
  case ahx =>
    rintro i ch ⟨d, rfl⟩ he
    obtain ⟨rule, hx⟩ := exec_of_encode_ahx he
    simp [hx, ahxSymbol, ha, hc, hf]
  case lzw =>
    rintro i code ⟨d, rfl⟩ he
    obtain ⟨rule, hx⟩ := exec_of_encode_lzw he
    simp [hx, lzwSymbol, ha, hc, hf]

end Sys2Proof.Machine
end

section
/-! # One step: the port, the registers, and the commands a phase refuses (R8, R21, R121)

A step takes the oldest entry of the port; what each kind of entry does is one equation. -/

namespace Sys2Proof.Machine

/-- Settles O4: the decoder run on the six encodings. -/
theorem wordsDecodeAsWritten : Obligations.WordsDecodeAsWritten := by
  unfold Obligations.WordsDecodeAsWritten
  decide

/-! ## One equation per entry of the port -/

section
variable {s : State} {rest : List PortOp}

theorem step_idle (h : s.port = []) : step s = .next s := by
  simp only [step, h, idleStep]

theorem step_command {w : Word} {payload : List Byte} {i : Instr} (h : s.port = .write 0 w payload :: rest)
    (hi : decode (.cmd w) = some i) : step s = exec i (present payload rest s) := by
  simp only [step, h, if_true, fetchCommand, hi]

theorem step_illegal {w : Word} {payload : List Byte} (h : s.port = .write 0 w payload :: rest)
    (hi : decode (.cmd w) = none) : step s = .next (reject (present payload rest s)) := by
  simp only [step, h, if_true, fetchCommand, hi]

theorem step_write {offset : Nat} {v : Word} {payload : List Byte} (h : s.port = .write offset v payload :: rest)
    (hne : offset ≠ 0) : step s = writeAccess offset v { s with port := rest } := by
  simp only [step, h, if_neg hne]

theorem step_read {offset : Nat} (h : s.port = .read offset :: rest) :
    step s = readAccess offset { s with port := rest } := by
  simp only [step, h]

theorem step_reset (h : s.port = .reset :: rest) : step s = .next (resetBlock { s with port := rest }) := by
  simp only [step, h]

end

/-- Settles O5: the word decodes, so the step is `exec` of its instruction. -/
theorem stepRunsDecodedInstruction : Obligations.StepRunsDecodedInstruction := by
  unfold Obligations.StepRunsDecodedInstruction
  intro s w payload rest i hport hi
  exact step_command hport hi

/-- Settles O6: a word that is none of the twelve does not decode, and the step rejects it. -/
theorem illegalCommandIsRejected : Obligations.IllegalCommandIsRejected := by
  unfold Obligations.IllegalCommandIsRejected
  intro s w payload rest hport hw
  have hnone : decode (.cmd w) = none := by
    refine Option.eq_none_iff_forall_ne_some.2 fun i hi => hw ?_
    exact List.mem_map_of_mem (f := Prod.fst) (mem_commandTable_of_decodeCmd hi)
  exact step_illegal hport hnone

/-- Settles O7: a read at each aligned offset, by the table of registers. -/
theorem registerReads : Obligations.RegisterReads := by
  unfold Obligations.RegisterReads
  intro s offset rest hport
  rw [step_read hport]
  refine ⟨fun hodd => if_neg hodd, fun haligned => ⟨_, if_pos haligned, ?_⟩⟩
  refine ⟨?_, ?_, ?_, ?_, ?_, ?_, ?_, ?_, ?_, fun hge => ?above⟩
  case above => simp (disch := omega) only [readRegister, if_neg]
  all_goals rintro rfl; rfl

/-- Bit `k` of `CTRL` exists for `k` of 0, 1, 2, 4, 5 and 6 (R30). -/
theorem getLsbD_ctrlMask {k : Nat} (h : k < 32) : ctrlMask.getLsbD k = decide (k ∈ [0, 1, 2, 4, 5, 6]) := by
  revert k
  decide

/-- Settles O8: a write at each aligned offset, by the table of registers. -/
theorem registerWrites : Obligations.RegisterWrites := by
  unfold Obligations.RegisterWrites
  intro s offset v payload rest hport hne
  rw [step_write hport hne]
  refine ⟨fun hodd => if_neg hodd, ?_, ?_, ?_, ?_, ?ctrl, fun haligned hother => ?other⟩
  case ctrl =>
    rintro rfl
    refine ⟨v &&& ctrlMask, rfl, fun k hk => ?_⟩
    rw [BitVec.getLsbD_and, getLsbD_ctrlMask hk]
  case other =>
    have hignored : writeRegister offset v { s with port := rest } = { s with port := rest } := by
      simp (disch := omega) only [writeRegister, if_neg]
    rw [writeAccess, if_pos haligned, hignored]
  all_goals rintro rfl; rfl

theorem statusWord_resetBlock (s : State) : statusWord (resetBlock s) = 0#32 :=
  (show statusWord (resetBlock s) = statusWord State.reset from rfl).trans (by decide)

/-- Settles O9: every field after reset is a constant of the spec. -/
theorem resetState : Obligations.ResetState := by
  unfold Obligations.ResetState
  refine ⟨fun s hport => step_idle hport, fun s rest hport => ?reset, by decide⟩
  case reset =>
    exact ⟨_, step_reset hport, rfl, statusWord_resetBlock _, rfl, rfl, rfl, rfl, rfl, rfl, rfl, rfl, rfl, rfl, rfl⟩

/-- Settles O15: both causes of a rejection, and the word of one. -/
theorem pushAndFinishRejected : Obligations.PushAndFinishRejected := by
  unfold Obligations.PushAndFinishRejected
  refine fun s => ⟨fun ha => ⟨execPush_rejected (.inl ha), execFinish_rejected ha⟩, fun m hm hlong => ?_⟩
  exact execPush_rejected (.inr fun hfit => absurd (hfit m hm) (by omega))

/-! ## START and the phases -/

/-- Settles O13: the checks of R33 pass, so START creates the invocation. -/
theorem startCreatesInvocation : Obligations.StartCreatesInvocation := by
  unfold Obligations.StartCreatesInvocation
  intro unit dir s l hlegal
  have hx : exec (startInstr unit dir) s = .next _ := exec_start unit dir s
  have hcheck : startChecks s.cfg unit dir (latchOf s) = true := (startChecks_iff _ _ _ _).2 hlegal
  rw [startWith_cases, if_pos hcheck] at hx
  refine ⟨startRows unit l, _, hx, startLatch_chain_iff unit dir s, fun hworks => ?works, fun hnot => ?off⟩
  case works => exact if_pos ((predictorOn_iff _ _).2 hworks)
  case off => exact if_neg (mt (predictorOn_iff _ _).1 hnot)

theorem startWith_phase (unit : CodecUnit) (dir : Direction) (create : Latches → Codec) (s : State) :
    (startWith unit dir create s).phase = .active ∨ (startWith unit dir create s).phase = .error := by
  rw [startWith_cases]
  split
  · exact .inl rfl
  · exact .inr rfl

theorem pushActive_phase {s : State} (ha : s.phase = .active) :
    (pushActive s).phase = .active ∨ (pushActive s).phase = .error := by
  obtain ⟨t, ht, hpush⟩ := pushActive_cases s
  have hphase := ht.phase ha
  rw [hpush]
  split
  · exact hphase
  · exact hphase

theorem finishActive_phase {s : State} (ha : s.phase = .active) :
    (finishActive s).phase = .done ∨ (finishActive s).phase = .error := by
  obtain ⟨t, ht, hfinish⟩ := finishActive_cases s
  rw [hfinish]
  split
  · exact .inl rfl
  · exact .inr ((ht.phase ha).resolve_left ‹_›)

/-- The phase after PUSH (R120). -/
theorem exec_push_phase {s t : State} (h : exec .push s = .next t) :
    (s.phase ≠ .active → t.phase = s.phase) ∧ (s.phase = .active → t.phase = .active ∨ t.phase = .error) := by
  refine ⟨fun ha => ?_, fun ha => ?_⟩
  · obtain rfl := Host.Outcome.next.inj ((execPush_rejected (.inl ha)).symm.trans h)
    rfl
  · obtain hr | hr | hr := execPush_cases s
    · obtain rfl := Host.Outcome.next.inj (hr.symm.trans h)
      exact .inl ha
    · obtain rfl := Host.Outcome.next.inj (hr.symm.trans h)
      exact pushActive_phase ha
    · cases hr.symm.trans h

/-- The phase after FINISH (R120). -/
theorem exec_finish_phase {s t : State} (h : exec .finish s = .next t) :
    (s.phase ≠ .active → t.phase = s.phase) ∧ (s.phase = .active → t.phase = .done ∨ t.phase = .error) := by
  refine ⟨fun ha => ?_, fun ha => ?_⟩
  · obtain rfl := Host.Outcome.next.inj ((execFinish_rejected ha).symm.trans h)
    rfl
  · obtain ⟨c, hc⟩ | hnone := (Option.eq_none_or_eq_some s.codec).symm
    · obtain rfl := Host.Outcome.next.inj ((execFinish_active ha hc).symm.trans h)
      exact finishActive_phase ha
    · have hx : exec .finish s = .fault .codecAbsent := by simp [exec, execFinish, ha, hnone]
      cases hx.symm.trans h

/-- Settles O18: command by command. -/
theorem phaseTransitions : Obligations.PhaseTransitions := by
  unfold Obligations.PhaseTransitions
  intro s t i w _ hx
  refine ⟨?nop, ?abort, fun hmem => ?text, fun hmem => ?pred, ?push, ?finish⟩
  case nop =>
    rintro rfl
    obtain rfl := Host.Outcome.next.inj hx
    rfl
  case abort =>
    rintro rfl
    obtain rfl := Host.Outcome.next.inj hx
    rfl
  case text =>
    simp only [List.mem_cons, List.not_mem_nil, or_false] at hmem
    obtain rfl | rfl | rfl | rfl := hmem <;> obtain rfl := Host.Outcome.next.inj hx <;> rfl
  case pred =>
    simp only [List.mem_cons, List.not_mem_nil, or_false] at hmem
    obtain rfl | rfl | rfl | rfl := hmem <;> obtain rfl := Host.Outcome.next.inj hx <;> exact startWith_phase _ _ _ s
  case push =>
    rintro rfl
    exact exec_push_phase hx
  case finish =>
    rintro rfl
    exact exec_finish_phase hx

end Sys2Proof.Machine
end

section
/-! # Rows of the predictor, in the terms of the spec (R211 to R231)

The row rule of each family as one equation, PUSH and FINISH of PRED alone in terms of it, and from these the statements
on rows: `pngRecon_filtered`, `pngFilterRow_filtered` and `tiffRow_coded` say what the rows are. -/

namespace Sys2Proof.Machine

/-! ## The row rule of each family (R214) -/

section
variable {l : Latches} {prev row : List Byte} {tag : Nat} {f : PngFilter}

theorem rowRule_tiff (hp : l.pred = 2#32) (dir : Direction) :
    rowRule l dir prev row = .emit prev (tiffRow l dir row) false := by
  simp [rowRule, Latches.png, hp]

theorem rowRule_pngDec (hp : 10 ≤ l.pred.toNat) (unit : List Byte) : rowRule l .dec prev unit = pngDecodeUnit l prev unit := by
  simp [rowRule, Latches.png, hp]

/-- The tag of a PNG encode is the forced filter, or for `L_PRED = 15` the latch `L_OPTTAG` (R229). -/
theorem encTag_eq (h15 : l.pred.toNat ≤ 15) (hforced : l.pred.toNat ≤ 14 → tag = l.pred.toNat - 10)
    (hopt : l.pred.toNat = 15 → tag = l.opttag.toNat) : encTag l = tag := by
  have hiff := eq_iff_toNat l.pred 15 (by decide)
  unfold encTag
  split
  · exact (hopt (hiff.1 ‹_›)).symm
  · have := mt hiff.2 ‹_›
    exact (hforced (by omega)).symm

theorem filterOfTag_of_mem
    (h : (tag, f) ∈ [(0, PngFilter.none), (1, .sub), (2, .up), (3, .average), (4, .paeth)]) :
    filterOfTag tag = some f := by
  simp only [List.mem_cons, Prod.mk.injEq, List.not_mem_nil, or_false] at h
  obtain ⟨rfl, rfl⟩ | ⟨rfl, rfl⟩ | ⟨rfl, rfl⟩ | ⟨rfl, rfl⟩ | ⟨rfl, rfl⟩ := h <;> rfl

theorem rowRule_pngEnc (hp : 10 ≤ l.pred.toNat) (htag : encTag l = tag) (hf : filterOfTag tag = some f) :
    rowRule l .enc prev row =
      .emit (if row.length = l.rowBytes then row else prev)
        (BitVec.ofNat 8 tag :: pngFilterRow f l.pixelBytes prev [] row) false := by
  simp [rowRule, Latches.png, hp, pngEncodeRow, htag, hf]

end

/-! ## PUSH of one byte and FINISH, to PRED alone -/

theorem exec_push_pred {s t : State} {r : Rows} {x : Byte} (h : Predicting s r) (hf : PayloadFits s) (hi : s.inp = [x])
    (hstep : predByte x { s with out := [] } = t) (ht : t.phase = .active) :
    exec .push s = .next { t with inp := [], rsp := 0#32 } := by
  have ho : openStream { s with out := [] } = { s with out := [] } := openStream_other fun e he => by
    simp [h.codec] at he
  have hbyte : byteStep x { s with out := [] } = t := (byteStep_pred (s := { s with out := [] }) h.codec x).trans hstep
  rw [show exec .push s = execPush s from rfl, execPush_active h.phase h.codec hf, pushActive_one h.phase hi ho, hbyte]
  exact congrArg _ (if_pos ht)

section
variable {s : State} {cur prev prev' out : List Byte} (h : Predicting s { cur := cur, prev := prev })
include h

/-- The byte that completes a row sends it (R214). -/
theorem exec_push_completes {x : Byte} (hf : PayloadFits s) (hi : s.inp = [x])
    (hlen : cur.length + 1 = s.latch.unitBytes s.dir)
    (hrow : rowRule s.latch s.dir prev (cur ++ [x]) = .emit prev' out false) :
    exec .push s = .next { s with rows := some { cur := [], prev := prev' }, inp := [], out := out, rsp := 0#32 } := by
  have h' : Predicting { s with out := [] } { cur := cur, prev := prev } := ⟨h.phase, h.codec, h.chain, h.rows⟩
  rw [exec_push_pred h hf hi
    ((predByte_completes h' hlen).trans ((congrArg (rowAnswer · _) hrow).trans (h'.rowAnswer_emit prev' out))) h.phase]
  rfl

/-- A byte that leaves the unit short only waits (R212). -/
theorem exec_push_joins {x : Byte} (hf : PayloadFits s) (hi : s.inp = [x])
    (hlen : cur.length + 1 ≠ s.latch.unitBytes s.dir) :
    exec .push s =
      .next { s with rows := some { cur := cur ++ [x], prev := prev }, inp := [], out := [], rsp := 0#32 } := by
  have h' : Predicting { s with out := [] } { cur := cur, prev := prev } := ⟨h.phase, h.codec, h.chain, h.rows⟩
  rw [exec_push_pred h hf hi (predByte_joins h' hlen) h.phase]
  rfl

/-- FINISH with a short final row that leaves as a truncated row (R216, R217). -/
theorem exec_finish_short (hne : cur ≠ []) (hlenient : s.latch.strict = false)
    (hrow : rowRule s.latch s.dir prev cur = .emit prev' out false) :
    exec .finish s = .next { s with codec := none, rows := none, phase := .done, rsp := 0#32, out := out } := by
  have h' : Predicting { s with out := [] } { cur := cur, prev := prev } := ⟨h.phase, h.codec, h.chain, h.rows⟩
  exact exec_finish_done h.phase h.codec
    ((finishStages_pred (s := { s with out := [] }) h.codec).trans (predFinish_short h' hne hlenient hrow)) h.phase

/-- FINISH with a short final row that faults (R216, R230). -/
theorem exec_finish_short_faults {cause : Cause} {sym : Code} (hne : cur ≠ []) (hlenient : s.latch.strict = false)
    (hrow : rowRule s.latch s.dir prev cur = .raise cause sym) :
    exec .finish s = .next (faultEntry cause sym s) := by
  refine exec_finish_faulted h.phase h.codec ?_
  rw [finishStages_pred (s := { s with out := [] }) h.codec]
  simp [predFinish, h.rows, hne, hlenient, hrow]

/-- FINISH with a short final row under strict (R216). -/
theorem exec_finish_strict (hne : cur ≠ []) (hstrict : s.latch.strict = true) :
    exec .finish s = .next (faultEntry .predShortRow 0#12 s) := by
  refine exec_finish_faulted h.phase h.codec ?_
  rw [finishStages_pred (s := { s with out := [] }) h.codec]
  simp [predFinish, h.rows, hne, hstrict]

end

/-! ## PNG rows -/

/-- Settles O49: the tag's filter rebuilds the row, and an emission of a decode leaves the block. -/
theorem pngRowsReconstructed : Obligations.PngRowsReconstructed := by
  unfold Obligations.PngRowsReconstructed
  intro s i f tag data prev h hcolors hbpc he hmem W bpp
  have hsends (prev' raw : List Byte) :
      rowAnswer (.emit prev' raw false) s = { s with rows := some { cur := [], prev := prev' }, out := s.out ++ raw } := by
    simp [predSink, h.2.1, emitOut]
  have hrow : i.wf = true ∧ filterOfTag tag.toNat = some f := by
    simp only [List.mem_cons, Prod.mk.injEq, List.not_mem_nil, or_false] at hmem
    obtain ⟨rfl, rfl⟩ | ⟨rfl, rfl⟩ | ⟨rfl, rfl⟩ | ⟨rfl, rfl⟩ | ⟨rfl, rfl⟩ := hmem <;> cases he <;> exact ⟨rfl, rfl⟩
  refine ⟨_, pngRecon_filtered f s.latch.pixelBytes prev data (pixelBytes_pos _ hcolors hbpc), ?_⟩
  rw [exec_pngtag h hrow.1 he, pngDecodeUnit_legal hrow.2, pngDecodeRow, hsends]
  rfl

/-- Settles O51: the row rule of PNG encode on a whole row. -/
theorem pngRowsFiltered : Obligations.PngRowsFiltered := by
  unfold Obligations.PngRowsFiltered
  intro s cur prev x tag f ha hc hd hch hfit h10 h15 hforced hopt hmem hr hlen hi bpp
  have hwhole : (cur ++ [x]).length = s.latch.rowBytes := by rw [List.length_append]; exact hlen
  have hbpp : 1 ≤ s.latch.pixelBytes := by
    refine pixelBytes_pos _ ?_ ?_ <;> refine Nat.one_le_iff_ne_zero.2 fun hzero => ?_
    · simp [hzero] at hlen
    · simp [hzero] at hlen
  refine ⟨_, pngFilterRow_filtered f s.latch.pixelBytes prev (cur ++ [x]) hbpp, ?_⟩
  have hrow := rowRule_pngEnc (prev := prev) (row := cur ++ [x]) h10 (encTag_eq h15 hforced hopt) (filterOfTag_of_mem hmem)
  rw [if_pos hwhole] at hrow
  exact exec_push_completes ⟨ha, hc, hch, hr⟩ hfit hi (by rw [hd, unitBytes_enc]; exact hlen) (hd ▸ hrow)

/-! ## TIFF rows -/

theorem drop_bitsOfBytes (row : List Byte) {k : Nat} (h : k ≤ row.length) :
    (bitsOfBytes row).drop (k * 8) = bitsOfBytes (row.drop k) := by
  have hlen : (bitsOfBytes (row.take k)).length = k * 8 := by rw [bitsOfBytes_length, List.length_take]; omega
  conv_lhs => rw [← List.take_append_drop k row, bitsOfBytes_append, List.drop_left' hlen]

/-- An 8-bit component is a byte (R220). -/
theorem component_eight {row : List Byte} {k : Nat} (h : k < row.length) :
    component 8 k row = (row.getD k 0#8).toNat := by
  rw [component_bits 8 k row (by omega), drop_bitsOfBytes row h.le, List.drop_eq_getElem_cons h, bitsOfBytes_cons,
    List.take_left' (bitsOfNat_length 8 _), natOfBits_bitsOfNat_of_lt (row[k].isLt), List.getD_eq_getElem _ _ h]

/-- With 8-bit components a whole row is coded byte by byte (R220). -/
theorem tiffCoded_bytes {dir : Direction} {columns colors : Nat} {input out : List Byte}
    (h : TiffCoded dir columns colors 8 input out) (hlen : input.length = columns * colors) {k : Nat}
    (hk : k < out.length) :
    let back (row : List Byte) : Byte := if colors ≤ k then row.getD (k - colors) 0#8 else 0#8
    (dir = .dec → out.getD k 0#8 = input.getD k 0#8 + back out) ∧
    (dir = .enc → out.getD k 0#8 = input.getD k 0#8 - back input) := by
  intro back
  obtain ⟨hout, hcomp, -⟩ := h
  have hleft (row : List Byte) (hrow : k < row.length) :
      (if colors ≤ k then component 8 (k - colors) row else 0) = (back row).toNat := by
    simp only [back]
    split
    · exact component_eight (by omega)
    · rfl
  have hin : k < input.length := hout ▸ hk
  obtain ⟨hdec, henc⟩ := hcomp k (by rw [← hlen, Nat.mul_div_cancel_left _ (by decide), min_self]; exact hin)
  dsimp only at hdec henc
  rw [component_eight hk, component_eight hin, hleft out hk] at hdec
  rw [component_eight hk, component_eight hin, hleft input hin] at henc
  refine ⟨fun hd => BitVec.eq_of_toNat_eq ?_, fun hd => BitVec.eq_of_toNat_eq ?_⟩
  · rw [hdec hd, BitVec.toNat_add]
  · rw [henc hd, BitVec.toNat_sub]
    have := (back input).isLt
    congr 1
    omega

/-- Settles O52: the row rule of TIFF, byte by byte where components are bytes. -/
theorem tiffRowsOfBytes : Obligations.TiffRowsOfBytes := by
  unfold Obligations.TiffRowsOfBytes
  intro s cur prev x ha hc hch hfit hp hcolors hr hlen hi
  have hcoded := tiffRow_coded s.latch s.dir (cur ++ [x]) hcolors
  refine ⟨tiffRow s.latch s.dir (cur ++ [x]), hcoded, fun h8 k hk => ?bytes, ?push⟩
  case bytes =>
    have hbpc : s.latch.bpc.toNat = 8 := by rw [h8]; rfl
    rw [hbpc] at hcoded hlen
    refine tiffCoded_bytes hcoded ?_ hk
    rw [List.length_append, List.length_singleton, hlen]
    omega
  case push =>
    have hunit : s.latch.unitBytes s.dir = s.latch.rowBytes := by simp [Latches.unitBytes, Latches.png, hp]
    exact exec_push_completes ⟨ha, hc, hch, hr⟩ hfit hi (hunit ▸ hlen) (rowRule_tiff hp s.dir)

/-! ## PRED alone -/

/-- With no buffers PUSH sends its payload as it is (R211). -/
theorem pushBytes_pred_identity {s : State} (ha : s.phase = .active) (hc : s.codec = some .pred)
    (hch : s.chain = false) (hr : s.rows = none) (bytes : List Byte) : pushBytes bytes s = emitOut bytes s := by
  induction bytes generalizing s with
  | nil => rw [emitOut_nil, pushBytes_nil]
  | cons x xs ih =>
    have hx : byteStep x s = emitOut [x] s := by simp [byteStep_pred hc, predByte, hr, predSink_unchained hch]
    rw [pushBytes_cons ha, hx, ih (s := emitOut [x] s) ha hc hch hr, emitOut_emitOut]
    rfl

theorem exec_push_identity {s : State} (ha : s.phase = .active) (hc : s.codec = some .pred) (hch : s.chain = false)
    (hr : s.rows = none) (hfit : PayloadFits s) :
    exec .push s = .next { s with inp := [], out := s.inp, rsp := 0#32 } := by
  have ho : openStream { s with out := [] } = { s with out := [] } := openStream_other fun e he => by simp [hc] at he
  rw [show exec .push s = execPush s from rfl, execPush_active ha hc hfit, pushActive_eq, ho,
    pushBytes_pred_identity (s := { s with out := [] }) ha hc hch hr]
  exact congrArg _ (if_pos ha)

/-- Where `CUR` holds no bytes FINISH answers nothing (R211, R215). -/
theorem exec_finish_boundary {s : State} (ha : s.phase = .active) (hc : s.codec = some .pred)
    (hr : ∀ r, s.rows = some r → r.cur = []) :
    exec .finish s = .next { s with codec := none, rows := none, phase := .done, rsp := 0#32, out := [] } := by
  have hfin : finishStages { s with out := [] } = { s with out := [] } := by
    rw [finishStages_pred (s := { s with out := [] }) hc]
    cases hrows : s.rows with
    | none => simp [predFinish]
    | some r => simp [predFinish, hr r hrows]
  exact exec_finish_done ha hc hfin ha

theorem unitBytes_eq (l : Latches) (dir : Direction) :
    l.unitBytes dir = if 10 ≤ l.pred.toNat ∧ dir = .dec then l.rowBytes + 1 else l.rowBytes := by
  simp [Latches.unitBytes, Latches.png]

/-- Settles O53: PUSH and FINISH of PRED alone, the truncated rows family by family. -/
theorem predictorBuffersRows : Obligations.PredictorBuffersRows := by
  unfold Obligations.PredictorBuffersRows
  intro s ha hc hch W U bpp
  have hU : s.latch.unitBytes s.dir = U := unitBytes_eq s.latch s.dir
  refine ⟨fun hr hfit => exec_push_identity ha hc hch hr hfit,
    fun hr => exec_finish_boundary ha hc fun r h => by simp [hr] at h,
    fun cur prev x hr hfit hi hlen => exec_push_joins ⟨ha, hc, hch, hr⟩ hfit hi (hU ▸ hlen),
    fun prev hr => exec_finish_boundary ha hc fun r h => by simp_all,
    fun x xs prev hr hstrict => exec_finish_strict ⟨ha, hc, hch, hr⟩ (List.cons_ne_nil x xs) hstrict,
    fun x xs prev hr hlenient hcolors hbpc => ?truncated⟩
  have hs : Predicting s { cur := x :: xs, prev := prev } := ⟨ha, hc, hch, hr⟩
  have hne : x :: xs ≠ [] := List.cons_ne_nil x xs
  have hbpp : 1 ≤ s.latch.pixelBytes := pixelBytes_pos _ hcolors hbpc
  refine ⟨fun hp => ?tiff, fun tag f hd h10 h15 hforced hopt hmem => ?enc, fun f hd h10 hmem => ?dec,
    fun hd h10 hbad => ?bad⟩
  case tiff =>
    exact ⟨_, tiffRow_coded s.latch s.dir (x :: xs) hcolors, exec_finish_short hs hne hlenient (rowRule_tiff hp s.dir)⟩
  case enc =>
    have hrow := rowRule_pngEnc (prev := prev) (row := x :: xs) h10 (encTag_eq h15 hforced hopt) (filterOfTag_of_mem hmem)
    rw [← hd] at hrow
    exact ⟨_, pngFilterRow_filtered f s.latch.pixelBytes prev (x :: xs) hbpp, exec_finish_short hs hne hlenient hrow⟩
  case dec =>
    have hf : filterOfTag x.toNat = some f := by
      simp only [List.mem_cons, Prod.mk.injEq, List.not_mem_nil, or_false] at hmem
      obtain ⟨rfl, rfl⟩ | ⟨rfl, rfl⟩ | ⟨rfl, rfl⟩ | ⟨rfl, rfl⟩ | ⟨rfl, rfl⟩ := hmem <;> rfl
    have hrow := (rowRule_pngDec (prev := prev) h10 (x :: xs)).trans (pngDecodeUnit_legal hf s.latch prev xs)
    rw [← hd] at hrow
    exact ⟨_, pngRecon_filtered f s.latch.pixelBytes prev xs hbpp, exec_finish_short hs hne hlenient hrow⟩
  case bad =>
    refine exec_finish_short_faults hs hne hlenient ?_
    rw [hd, rowRule_pngDec h10, pngDecodeUnit_bad hbad]
    rfl

end Sys2Proof.Machine
end

section
/-! # Codes and bits (R177, R187, R190) -/

namespace Sys2Proof.Machine

/-- `WriteCode`: the held bits and the code, as the bytes that leave and the bits that stay (R187). -/
theorem writeCode_packs {e : LzwEnc} {c : Nat} (ha : e.acc < 2 ^ e.nbits) (hc : c < 2 ^ e.width) :
    let r := writeCode c e
    e.acc * 2 ^ e.width + c = beNat r.2 * 2 ^ r.1.nbits + r.1.acc ∧
    e.nbits + e.width = 8 * r.2.length + r.1.nbits ∧ r.1.nbits < 8 ∧ r.1.acc < 2 ^ r.1.nbits ∧
    r.1 = { e with acc := r.1.acc, nbits := r.1.nbits } := by
  have hall : e.acc * 2 ^ e.width + c < 2 ^ (e.nbits + e.width) := by
    rw [pow_add]
    nlinarith
  obtain ⟨hlen, hleft, hacc, hsum⟩ :=
    drainBytes_spec ((e.nbits + e.width) / 8) (e.acc * 2 ^ e.width + c) (e.nbits + e.width) (by omega) hall
  simp only [writeCode]
  rw [hleft, hlen]
  exact ⟨hsum, by omega, by omega, hacc, trivial⟩

/-- `ReadCode` where a code is complete: its bits and those that stay (R177). -/
theorem readCode_packs {d : LzwDec} {b : Byte} (hw : d.width ≤ 12) (ha : d.acc < 2 ^ d.nbits)
    (hfull : d.width ≤ d.nbits + 8) :
    ∃ code d', readCode b d = (some code, d') ∧
      d.acc * 256 + b.toNat = code.toNat * 2 ^ d'.nbits + d'.acc ∧ code.toNat < 2 ^ d.width ∧
      d'.nbits + d.width = d.nbits + 8 ∧ d'.acc < 2 ^ d'.nbits ∧
      d' = { d with acc := d'.acc, nbits := d'.nbits } := by
  have hread := readCode_cases b d
  rw [if_pos hfull] at hread
  set left := d.nbits + 8 - d.width with hleft
  have hcode : (d.acc * 256 + b.toNat) / 2 ^ left < 2 ^ d.width := by
    rw [Nat.div_lt_iff_lt_mul (Nat.two_pow_pos _), ← pow_add, show d.width + left = d.nbits + 8 by omega, pow_add]
    have := b.isLt
    omega
  have hcode12 : (d.acc * 256 + b.toNat) / 2 ^ left < 2 ^ 12 :=
    lt_of_lt_of_le hcode (Nat.pow_le_pow_right (by decide) hw)
  refine ⟨_, _, hread, ?_⟩
  rw [BitVec.toNat_ofNat, Nat.mod_eq_of_lt hcode12]
  exact ⟨(Nat.div_add_mod' _ _).symm, hcode, by simp only [hleft]; omega, Nat.mod_lt _ (Nat.two_pow_pos _), rfl⟩

/-- Settles O46: both directions of the packing, and the thresholds one entry apart. -/
theorem codesPackMsbFirst : Obligations.CodesPackMsbFirst := by
  unfold Obligations.CodesPackMsbFirst
  refine ⟨fun e c _ ha hc => writeCode_packs ha hc,
    fun d b _ hw _ ha => ⟨fun hshort => ?_, fun hfull => readCode_packs hw ha hfull⟩, fun t hlow hhigh => ?_⟩
  · rw [readCode_cases, if_neg (by omega)]
  · have hlag := widthDec_eq_widthEnc_succ (t := t - 1) (by omega)
    rw [hlag, Nat.sub_add_cancel (by omega)]

end Sys2Proof.Machine
end

section
/-! # What the rules of a transaction do not read (R63, R78)

The rules read the codec state, the buffers, the latches and the descriptor. A change of a state that leaves these alone
and stands under every update the rules make, stands under the rules: a payload presented, output emitted before, an
earlier `RSP`, the parameter registers. -/

namespace Sys2Proof.Machine

/-- A change of a state that the rules of a transaction neither read nor undo. -/
structure Transparent (q : State → State) : Prop where
  phase : ∀ s, (q s).phase = s.phase
  codec : ∀ s, (q s).codec = s.codec
  rows : ∀ s, (q s).rows = s.rows
  latch : ∀ s, (q s).latch = s.latch
  chain : ∀ s, (q s).chain = s.chain
  dir : ∀ s, (q s).dir = s.dir
  fin : ∀ s, (q s).fin = s.fin
  fault : ∀ cause sym s, faultEntry cause sym (q s) = q (faultEntry cause sym s)
  emit : ∀ bytes s, emitOut bytes (q s) = q (emitOut bytes s)
  setCodec : ∀ s c f, { q s with codec := c, fin := f } = q { s with codec := c, fin := f }
  setRows : ∀ s r, { q s with rows := r } = q { s with rows := r }

namespace Transparent

variable {q : State → State} (hq : Transparent q) (s : State)
include hq

theorem atCodec (c : Codec) : Machine.atCodec c (q s) = q (Machine.atCodec c s) := by
  have h := hq.setCodec s (some c) s.fin
  rw [← hq.fin] at h
  exact h.trans (by rw [hq.fin]; rfl)

theorem emit_atCodec (bytes : List Byte) (c : Codec) :
    emitOut bytes { q s with codec := some c } = q (emitOut bytes { s with codec := some c }) :=
  (congrArg (emitOut bytes) (hq.atCodec s c)).trans (hq.emit bytes _)

theorem applyAnswer {σ : Type} (wrap : σ → Codec) (a : Answer σ) :
    Machine.applyAnswer wrap a (q s) = q (Machine.applyAnswer wrap a s) := by
  cases a with
  | raise cause sym => exact hq.fault cause sym s
  | emit st bytes term => simp only [Machine.applyAnswer, hq.fin, hq.setCodec, hq.emit]

theorem lzwEncFeed (b : Byte) : Machine.lzwEncFeed b (q s) = q (Machine.lzwEncFeed b s) := by
  unfold Machine.lzwEncFeed
  rw [hq.codec]
  split
  · exact hq.emit_atCodec s _ _
  · rfl

theorem foldl_lzwEncFeed (bytes : List Byte) :
    bytes.foldl (fun t b => Machine.lzwEncFeed b t) (q s) = q (bytes.foldl (fun t b => Machine.lzwEncFeed b t) s) := by
  induction bytes generalizing s with
  | nil => rfl
  | cons b bs ih => rw [List.foldl_cons, hq.lzwEncFeed, ih, List.foldl_cons]

theorem predSink (bytes : List Byte) : Machine.predSink bytes (q s) = q (Machine.predSink bytes s) := by
  unfold Machine.predSink
  rw [hq.chain, hq.dir, hq.foldl_lzwEncFeed, hq.emit]
  exact (apply_ite q _ _ _).symm

theorem rowAnswer (a : Answer (List Byte)) : Machine.rowAnswer a (q s) = q (Machine.rowAnswer a s) := by
  cases a with
  | raise cause sym => exact hq.fault cause sym s
  | emit prev bytes term => rw [rowAnswer_emit, rowAnswer_emit, hq.setRows, hq.predSink]

theorem predByte (x : Byte) : Machine.predByte x (q s) = q (Machine.predByte x s) := by
  have hunit : (q s).latch.unitBytes (q s).dir = s.latch.unitBytes s.dir := by rw [hq.latch, hq.dir]
  unfold Machine.predByte
  rw [hq.rows]
  split
  · exact hq.predSink s [x]
  · dsimp only
    rw [hunit]
    split
    · rw [hq.latch, hq.dir]
      exact hq.rowAnswer s _
    · exact hq.setRows s _

theorem predFeed (bytes : List Byte) : Machine.predFeed bytes (q s) = q (Machine.predFeed bytes s) := by
  induction bytes generalizing s with
  | nil => rfl
  | cons x xs ih =>
    unfold Machine.predFeed
    rw [hq.phase, hq.predByte, ih]
    exact (apply_ite q _ _ _).symm

theorem predFinish : Machine.predFinish (q s) = q (Machine.predFinish s) := by
  unfold Machine.predFinish
  rw [hq.rows, hq.latch, hq.dir]
  split
  · rfl
  · rw [hq.fault, hq.rowAnswer, ← apply_ite q, ← apply_ite q]

theorem lzwDecSink (bytes : List Byte) : Machine.lzwDecSink bytes (q s) = q (Machine.lzwDecSink bytes s) := by
  unfold Machine.lzwDecSink
  rw [hq.chain, hq.predFeed, hq.emit]
  exact (apply_ite q _ _ _).symm

theorem lzwAnswer (a : Answer LzwDec) : Machine.lzwAnswer a (q s) = q (Machine.lzwAnswer a s) := by
  cases a with
  | raise cause sym => exact hq.fault cause sym s
  | emit d bytes term => rw [lzwAnswer_emit, lzwAnswer_emit, hq.fin, hq.setCodec, hq.lzwDecSink]

theorem lzwDecByte (b : Byte) (d : LzwDec) : Machine.lzwDecByte b d (q s) = q (Machine.lzwDecByte b d s) := by
  unfold Machine.lzwDecByte
  split
  · exact hq.atCodec s _
  · exact hq.lzwAnswer s _

theorem byteStep (b : Byte) : Machine.byteStep b (q s) = q (Machine.byteStep b s) := by
  unfold Machine.byteStep
  rw [hq.codec]
  split
  · rfl
  · exact hq.emit_atCodec s _ _
  · rw [hq.fin, hq.applyAnswer, ← apply_ite q]
  · rw [hq.latch, hq.emit]
  · rw [hq.fin, hq.applyAnswer, ← apply_ite q]
  · rw [hq.fin, hq.lzwDecByte, ← apply_ite q]
  · rw [hq.chain, hq.predByte, hq.lzwEncFeed, ← apply_ite q]
  · rw [hq.predByte]

theorem pushBytes (bytes : List Byte) : Machine.pushBytes bytes (q s) = q (Machine.pushBytes bytes s) := by
  induction bytes generalizing s with
  | nil => rfl
  | cons b bs ih =>
    unfold Machine.pushBytes
    rw [hq.phase, hq.byteStep, ih]
    exact (apply_ite q _ _ _).symm

theorem openStream : Machine.openStream (q s) = q (Machine.openStream s) := by
  unfold Machine.openStream
  rw [hq.codec]
  split
  · exact hq.emit_atCodec s _ _
  · rfl

theorem lzwEncFlush : Machine.lzwEncFlush (q s) = q (Machine.lzwEncFlush s) := by
  unfold Machine.lzwEncFlush
  rw [hq.codec]
  split
  · exact hq.emit_atCodec s _ _
  · rfl

theorem unlessFaulted {f : State → State} (hf : ∀ t, f (q t) = q (f t)) :
    Machine.unlessFaulted f (q s) = q (Machine.unlessFaulted f s) := by
  unfold Machine.unlessFaulted
  rw [hq.phase, hf]
  exact (apply_ite q _ _ _).symm

theorem a85DecFinish : Machine.a85DecFinish (q s) = q (Machine.a85DecFinish s) := by
  unfold Machine.a85DecFinish
  rw [hq.fin, hq.fault]
  exact (apply_ite q _ _ _).symm

theorem ahxDecFinish (d : AhxDec) : Machine.ahxDecFinish d (q s) = q (Machine.ahxDecFinish d s) := by
  unfold Machine.ahxDecFinish
  rw [hq.fin, hq.fault, hq.fault, ← apply_ite q, ← apply_ite q]

theorem lzwDecFinish (d : LzwDec) : Machine.lzwDecFinish d (q s) = q (Machine.lzwDecFinish d s) := by
  unfold Machine.lzwDecFinish
  rw [hq.fin, hq.fault, hq.fault, ← apply_ite q, ← apply_ite q]

theorem finishStages : Machine.finishStages (q s) = q (Machine.finishStages s) := by
  unfold Machine.finishStages
  rw [hq.codec, hq.chain]
  split
  · rfl
  · rw [hq.emit]
  · rw [hq.a85DecFinish]
  · rw [hq.emit]
  · rw [hq.ahxDecFinish]
  · rw [hq.lzwDecFinish, hq.unlessFaulted _ hq.predFinish, ← apply_ite q]
  · rw [hq.openStream, hq.predFinish, hq.lzwEncFlush, hq.unlessFaulted _ hq.lzwEncFlush, ← apply_ite q]
  · rw [hq.predFinish]

end Transparent

/-! ## Parameter writes (R78) -/

theorem transparent_withParameters (p c b w k : Word) : Transparent (withParameters p c b w k) where
  phase _ := rfl
  codec _ := rfl
  rows _ := rfl
  latch _ := rfl
  chain _ := rfl
  dir _ := rfl
  fin _ := rfl
  fault _ _ _ := rfl
  emit _ _ := rfl
  setCodec _ _ _ := rfl
  setRows _ _ := rfl

theorem pushActive_withParameters (p c b w k : Word) (s : State) :
    pushActive (withParameters p c b w k s) = withParameters p c b w k (pushActive s) := by
  have hq := transparent_withParameters p c b w k
  have hbytes : pushBytes s.inp (openStream { withParameters p c b w k s with out := [] }) =
      withParameters p c b w k (pushBytes s.inp (openStream { s with out := [] })) := by
    rw [← hq.pushBytes, ← hq.openStream]
    rfl
  rw [pushActive_eq, pushActive_eq]
  refine (congrArg answerPush hbytes).trans ?_
  simp only [answerPush, hq.phase]
  split <;> rfl

theorem finishActive_withParameters (p c b w k : Word) (s : State) :
    finishActive (withParameters p c b w k s) = withParameters p c b w k (finishActive s) := by
  have hq := transparent_withParameters p c b w k
  have hstages : finishStages { withParameters p c b w k s with out := [] } =
      withParameters p c b w k (finishStages { s with out := [] }) := by
    rw [← hq.finishStages]
    rfl
  simp only [finishActive, hstages]
  rw [hq.phase]
  split <;> rfl

theorem execPush_absent {s : State} (ha : s.phase = .active) (hc : s.codec = none) (hf : PayloadFits s) :
    execPush s = .fault .codecAbsent := by
  simp [execPush, ha, hc, (payloadFits_iff s).2 hf]

theorem execFinish_absent {s : State} (ha : s.phase = .active) (hc : s.codec = none) :
    execFinish s = .fault .codecAbsent := by
  simp [execFinish, ha, hc]

/-- Settles O56: PUSH and FINISH are made of rules that do not read the registers. -/
theorem parameterWritesDoNotReachInvocation : Obligations.ParameterWritesDoNotReachInvocation := by
  unfold Obligations.ParameterWritesDoNotReachInvocation
  intro s t p c b w k ha
  cases hcodec : s.codec with
  | some codec =>
    refine ⟨fun hx => ?push, fun hx => ?finish⟩
    case push =>
      by_cases hf : PayloadFits s
      · obtain rfl := Host.Outcome.next.inj ((execPush_active ha hcodec hf).symm.trans hx)
        exact (execPush_active (s := withParameters p c b w k s) ha hcodec hf).trans
          (congrArg _ (pushActive_withParameters p c b w k s))
      · obtain rfl := Host.Outcome.next.inj ((execPush_rejected (.inr hf)).symm.trans hx)
        exact execPush_rejected (s := withParameters p c b w k s) (.inr hf)
    case finish =>
      obtain rfl := Host.Outcome.next.inj ((execFinish_active ha hcodec).symm.trans hx)
      exact (execFinish_active (s := withParameters p c b w k s) ha hcodec).trans
        (congrArg _ (finishActive_withParameters p c b w k s))
  | none =>
    refine ⟨fun hx => ?push, fun hx => ?finish⟩
    case push =>
      by_cases hf : PayloadFits s
      · cases (execPush_absent ha hcodec hf).symm.trans hx
      · obtain rfl := Host.Outcome.next.inj ((execPush_rejected (.inr hf)).symm.trans hx)
        exact execPush_rejected (s := withParameters p c b w k s) (.inr hf)
    case finish => cases (execFinish_absent ha hcodec).symm.trans hx

end Sys2Proof.Machine
end

section
/-! # Transactions of PUSH, one after the other (R63, R64) -/

namespace Sys2Proof.Machine

theorem answerPush_active {t : State} (ha : t.phase = .active) :
    answerPush t = { t with inp := [], rsp := okWord } := if_pos ha

theorem exec_push {s : State} {c : Codec} (ha : s.phase = .active) (hc : s.codec = some c) (hf : PayloadFits s) :
    exec .push s = .next (answerPush (pushBytes s.inp (openStream { s with out := [] }))) := by
  rw [← pushActive_eq]
  exact execPush_active ha hc hf

theorem exec_push_empty {s : State} {c : Codec} (ha : s.phase = .active) (hc : s.codec = some c) (hi : s.inp = []) :
    exec .push s = .next (answerPush (openStream { s with out := [] })) := by
  rw [exec_push ha hc fun m _ => by simp [hi]]
  exact congrArg (fun bytes => Host.Outcome.next (answerPush (pushBytes bytes (openStream { s with out := [] })))) hi

/-- Settles O19: an empty payload leaves the opening CLEAR as the only thing to do. -/
theorem emptyPush : Obligations.EmptyPush := by
  unfold Obligations.EmptyPush
  intro s c ha hc hi
  rw [exec_push_empty ha hc hi]
  refine ⟨fun hopened => ?opened, fun e he hok hl => ?owed⟩
  case opened =>
    have ho : Opened { s with out := [] } := fun e he => hopened e (Option.some.inj (hc.symm.trans he))
    rw [ho.openStream_eq, answerPush_active (t := { s with out := [] }) ha, hi]
    rfl
  case owed =>
    obtain ⟨-, -, -, -, -, -, -, -, hinit⟩ := hok
    obtain rfl := hinit hl
    rw [openStream_lzwEnc (s := { s with out := [] }) (hc.trans (congrArg some he)), answerPush_active, hi]
    · rfl
    · exact ha

end Sys2Proof.Machine
end

section
/-! # A payload in two pieces (R63) -/

namespace Sys2Proof.Machine

/-- A state as a later PUSH finds it: another payload presented, `sent` emitted before, the `RSP` of then. -/
def resumed (inp sent : List Byte) (rsp : Word) (s : State) : State :=
  { afterOutput inp sent s with rsp := if s.phase = .active then rsp else s.rsp }

theorem transparent_resumed (inp sent : List Byte) (rsp : Word) : Transparent (resumed inp sent rsp) where
  phase _ := rfl
  codec _ := rfl
  rows _ := rfl
  latch _ := rfl
  chain _ := rfl
  dir _ := rfl
  fin _ := rfl
  fault _ _ _ := rfl
  emit bytes s := congrArg (fun t : State => { t with rsp := if s.phase = Phase.active then rsp else s.rsp })
    (emitOut_afterOutput inp sent s bytes)
  setCodec _ _ _ := rfl
  setRows _ _ := rfl

theorem resumed_of_active {inp sent : List Byte} {rsp : Word} {s : State} (ha : s.phase = .active) :
    resumed inp sent rsp s = { s with inp := inp, out := sent ++ s.out, rsp := rsp } := by
  simp [resumed, afterOutput, ha]

theorem resumed_of_inactive {inp sent : List Byte} {rsp : Word} {s : State} (ha : s.phase ≠ .active) :
    resumed inp sent rsp s = { s with inp := inp } := by
  simp [resumed, afterOutput, ha]

theorem answerPush_inactive {t : State} (ha : t.phase ≠ .active) : answerPush t = { t with inp := [] } := if_neg ha

/-- What a PUSH answers does not depend on the `RSP` before it, and shows the output emitted before. -/
theorem answerPush_resumed (inp sent : List Byte) (rsp : Word) (s : State) :
    answerPush (resumed inp sent rsp s) =
      if s.phase = .active then { answerPush s with out := sent ++ s.out } else answerPush s := by
  by_cases ha : s.phase = .active
  · rw [if_pos ha, resumed_of_active ha, answerPush_active ha, answerPush_active]
    exact ha
  · rw [if_neg ha, resumed_of_inactive ha, answerPush_inactive ha, answerPush_inactive]
    exact ha

@[simp] theorem answerPush_out (t : State) : (answerPush t).out = t.out := by
  unfold answerPush
  split <;> rfl

theorem answerPush_resumed_nil (inp : List Byte) (rsp : Word) (s : State) :
    answerPush (resumed inp [] rsp s) = answerPush s := by
  rw [answerPush_resumed, List.nil_append, ← answerPush_out s]
  exact ite_self _

@[simp] theorem answerPush_phase (t : State) : (answerPush t).phase = t.phase := by
  unfold answerPush
  split <;> rfl

/-- What a PUSH computes, from the state with no payload and nothing emitted. -/
theorem exec_push_resumed {s : State} {c : Codec} {bytes : List Byte} (ha : s.phase = .active) (hc : s.codec = some c)
    (hf : PayloadFits { s with inp := bytes }) :
    exec .push { s with inp := bytes } = .next (answerPush
      (resumed bytes [] s.rsp (pushBytes bytes (openStream { s with inp := [], out := [] })))) := by
  have hq := transparent_resumed bytes [] s.rsp
  have hstart : resumed bytes [] s.rsp { s with inp := [], out := [] } = { s with inp := bytes, out := [] } :=
    resumed_of_active ha
  rw [← hq.pushBytes, ← hq.openStream, hstart]
  exact exec_push (s := { s with inp := bytes }) ha hc hf

theorem exec_push_codec {s t : State} (ha : s.phase = .active) (hf : PayloadFits s) (hx : exec .push s = .next t) :
    ∃ c, s.codec = some c := by
  cases hc : s.codec with
  | none => cases (execPush_absent ha hc hf).symm.trans hx
  | some c => exact ⟨c, rfl⟩

/-- Settles O21: the second PUSH resumes at the state the first one left, past the opening CLEAR. -/
theorem pushOfTwoPieces : Obligations.PushOfTwoPieces := by
  unfold Obligations.PushOfTwoPieces
  intro s t u a b hfits ha hfirst hta hsecond
  have hfa : PayloadFits { s with inp := a } := fun m hm => by
    have := hfits m hm
    simp only [List.length_append] at this ⊢
    omega
  obtain ⟨c, hc⟩ := exec_push_codec (s := { s with inp := a }) ha hfa hfirst
  set opened := openStream { s with inp := [], out := [] } with hopened
  set first := pushBytes a opened with hfirstState
  set second := pushBytes b { first with inp := [], out := [] } with hsecondState
  have ht : t = answerPush (resumed a [] s.rsp first) :=
    Host.Outcome.next.inj (hfirst.symm.trans (exec_push_resumed ha hc hfa))
  have hpa : first.phase = .active := by
    rw [← hta, ht, answerPush_phase]
    rfl
  have hpiece : t = { first with inp := [], rsp := okWord } := by
    rw [ht, answerPush_resumed, if_pos hpa, answerPush_active hpa]
    rfl
  have hfirstOpened : Opened first := opened_pushBytes (opened_openStream _) a
  have hcfg : t.cfg = s.cfg := by
    obtain ⟨hopenedCfg, -⟩ := (openStream_runs { s with inp := [], out := [] }).keeps
    obtain ⟨hfirstCfg, -⟩ := ((pushBytes_rules a opened).runs hpa).keeps
    rw [hpiece]
    exact hfirstCfg.trans hopenedCfg
  have hfb : PayloadFits { t with inp := b } := fun m hm => by
    have := hfits m (hcfg ▸ hm)
    simp only [List.length_append] at this ⊢
    omega
  obtain ⟨c', hc'⟩ := exec_push_codec (s := { t with inp := b }) hta hfb hsecond
  have hu : u = answerPush second := by
    have hstart : { t with inp := [], out := [] } = resumed [] [] okWord { first with inp := [], out := [] } := by
      rw [hpiece, resumed_of_active (s := { first with inp := [], out := [] }) hpa, List.append_nil]
    have hrest : Opened { first with inp := [], out := [] } := hfirstOpened.of_codec_eq rfl
    have hnext := hsecond.symm.trans (exec_push_resumed hta hc' hfb)
    rw [answerPush_resumed_nil, hstart, (transparent_resumed _ _ _).openStream, hrest.openStream_eq,
      (transparent_resumed _ _ _).pushBytes, answerPush_resumed_nil] at hnext
    exact Host.Outcome.next.inj hnext
  have hwhole : pushBytes b first = resumed first.inp first.out first.rsp second := by
    have hstart : resumed first.inp first.out first.rsp { first with inp := [], out := [] } = first := by
      rw [resumed_of_active (s := { first with inp := [], out := [] }) hpa, List.append_nil]
    rw [hsecondState, ← (transparent_resumed _ _ _).pushBytes, hstart]
  have hphase : u.phase = second.phase := by rw [hu, answerPush_phase]
  have hout : t.out = first.out := by rw [hpiece]
  rw [exec_push_resumed ha hc hfits, pushBytes_append, answerPush_resumed_nil, ← hopened, ← hfirstState, hwhole,
    answerPush_resumed, ← answerPush_out second, ← hu, ← hout]
  by_cases hsa : second.phase = .active
  · rw [if_pos hsa, if_pos (hphase.trans hsa)]
  · rw [if_neg hsa, if_neg (hphase ▸ hsa)]

end Sys2Proof.Machine
end

section
/-! # What the stages of a transaction leave: `fin`, and the causes of a fault (R216, R230, R261, R264) -/

namespace Sys2Proof.Machine

/-! ## `fin` belongs to stage 1 -/

@[simp] theorem lzwEncFeed_fin (b : Byte) (s : State) : (lzwEncFeed b s).fin = s.fin := by
  unfold lzwEncFeed
  split <;> rfl

@[simp] theorem foldl_lzwEncFeed_fin (bytes : List Byte) (s : State) :
    (bytes.foldl (fun t b => lzwEncFeed b t) s).fin = s.fin := by
  induction bytes generalizing s with
  | nil => rfl
  | cons b bs ih => exact (ih _).trans (lzwEncFeed_fin b s)

@[simp] theorem predSink_fin (bytes : List Byte) (s : State) : (predSink bytes s).fin = s.fin := by
  unfold predSink
  split
  · exact foldl_lzwEncFeed_fin bytes s
  · rfl

@[simp] theorem rowAnswer_fin (a : Answer (List Byte)) (s : State) : (rowAnswer a s).fin = s.fin := by
  cases a with
  | raise cause sym => rfl
  | emit prev bytes term => exact predSink_fin bytes _

@[simp] theorem predByte_fin (x : Byte) (s : State) : (predByte x s).fin = s.fin := by
  unfold predByte
  split
  · exact predSink_fin [x] s
  · dsimp only
    split
    · exact rowAnswer_fin _ s
    · rfl

@[simp] theorem predFinish_fin (s : State) : (predFinish s).fin = s.fin := by
  unfold predFinish
  split
  · rfl
  · split
    · rfl
    · split
      · rfl
      · exact rowAnswer_fin _ s

@[simp] theorem openStream_fin (s : State) : (openStream s).fin = s.fin := by
  unfold openStream
  split <;> rfl

@[simp] theorem lzwEncFlush_fin (s : State) : (lzwEncFlush s).fin = s.fin := by
  unfold lzwEncFlush
  split <;> rfl

@[simp] theorem lzwDecFinish_fin (d : LzwDec) (s : State) : (lzwDecFinish d s).fin = s.fin := by
  unfold lzwDecFinish
  split
  · rfl
  · split <;> rfl

@[simp] theorem ahxDecFinish_fin (d : AhxDec) (s : State) : (ahxDecFinish d s).fin = s.fin := by
  unfold ahxDecFinish
  split
  · rfl
  · split <;> rfl

@[simp] theorem a85DecFinish_fin (s : State) : (a85DecFinish s).fin = s.fin := by
  unfold a85DecFinish
  split <;> rfl

theorem unlessFaulted_fin {f : State → State} (hf : ∀ t, (f t).fin = t.fin) (s : State) :
    (unlessFaulted f s).fin = s.fin := by
  unfold unlessFaulted
  split
  · exact hf s
  · rfl

@[simp] theorem finishStages_fin (s : State) : (finishStages s).fin = s.fin := by
  unfold finishStages
  split
  · rfl
  · rfl
  · exact a85DecFinish_fin s
  · rfl
  · exact ahxDecFinish_fin _ s
  · split
    · rw [unlessFaulted_fin predFinish_fin, lzwDecFinish_fin]
    · exact lzwDecFinish_fin _ s
  · split
    · rw [unlessFaulted_fin lzwEncFlush_fin, predFinish_fin, openStream_fin]
    · rw [lzwEncFlush_fin, openStream_fin]
  · exact predFinish_fin s

/-! ## The causes of a fault -/

theorem KeepsRegisters.latch {s t : State} (h : KeepsRegisters s t) : t.latch = s.latch := by
  obtain ⟨-, -, -, -, -, -, -, -, -, hlatch, -, -⟩ := h
  exact hlatch

theorem KeepsRegisters.dir {s t : State} (h : KeepsRegisters s t) : t.dir = s.dir := by
  obtain ⟨-, -, -, -, -, -, -, hdir, -, -, -, -⟩ := h
  exact hdir

theorem KeepsRegisters.chain {s t : State} (h : KeepsRegisters s t) : t.chain = s.chain := by
  obtain ⟨-, -, -, -, -, -, -, -, hchain, -, -, -⟩ := h
  exact hchain

/-- Everything a row rule can answer: an illegal tag in a decode, or the new `PREV`, again a row (R214, R230, R231). -/
theorem rowRule_cases (l : Latches) (dir : Direction) (prev unit : List Byte) :
    (∃ sym, dir = .dec ∧ rowRule l dir prev unit = .raise .pngBadTag sym) ∨
    (∃ prev' bytes, rowRule l dir prev unit = .emit prev' bytes false ∧
      (prev.length = l.rowBytes → prev'.length = l.rowBytes)) := by
  unfold rowRule
  split
  · cases dir with
    | dec =>
      cases unit with
      | nil => exact .inr ⟨prev, [], rfl, id⟩
      | cons tag data =>
        cases hf : filterOfTag tag.toNat with
        | none =>
          refine .inl ⟨byteSym tag, rfl, ?_⟩
          simp only [pngDecodeUnit, hf, pngBadTag]
        | some f =>
          refine .inr ⟨_, _, pngDecodeUnit_legal hf l prev data, fun hprev => ?_⟩
          split
          · simpa [pngRecon_length]
          · exact hprev
    | enc =>
      refine .inr ⟨_, _, rfl, fun hprev => ?_⟩
      split
      · assumption
      · exact hprev
  · exact .inr ⟨prev, _, rfl, id⟩

/-- The fault of the predictor inside a payload: an illegal tag in a decode (R230). -/
def TagFault (s t : State) : Prop := s.dir = .dec ∧ ∃ sym u, t = faultEntry .pngBadTag sym u

/-- The faults of the predictor at the end: a short final row under strict (R215), an illegal tag in a decode (R230). -/
def PredFault (s t : State) : Prop :=
  TagFault s t ∨ s.latch.strict = true ∧ ∃ u, t = faultEntry .predShortRow 0#12 u

theorem rowAnswer_rowRule {s : State} (ha : s.phase = .active) (prev unit : List Byte) :
    (rowAnswer (rowRule s.latch s.dir prev unit) s).phase = .active ∨
      TagFault s (rowAnswer (rowRule s.latch s.dir prev unit) s) := by
  obtain ⟨sym, hdir, hraise⟩ | ⟨prev', bytes, hemit, -⟩ := rowRule_cases s.latch s.dir prev unit
  · rw [hraise]
    exact .inr ⟨hdir, sym, s, rfl⟩
  · rw [hemit, rowAnswer_emit]
    exact .inl ((predSink_runs bytes _).phase.trans ha)

theorem predByte_outcome {s : State} (ha : s.phase = .active) (x : Byte) :
    (predByte x s).phase = .active ∨ TagFault s (predByte x s) := by
  unfold predByte
  split
  · exact .inl ((predSink_runs [x] s).phase.trans ha)
  · dsimp only
    split
    · exact rowAnswer_rowRule ha _ _
    · exact .inl ha

theorem predFinish_outcome {s : State} (ha : s.phase = .active) :
    (predFinish s).phase = .active ∨ PredFault s (predFinish s) := by
  unfold predFinish
  split
  · exact .inl ha
  · split
    · exact .inl ha
    · split
      · exact .inr (.inr ⟨‹_›, s, rfl⟩)
      · exact (rowAnswer_rowRule ha _ _).imp_right .inl

/-- The causes FINISH can report (R261). -/
def endCauses : List Cause := [.a85NoTerm, .ahxNoTerm, .ahxOddNibble, .lzwNoEod, .lzwTrunc, .predShortRow, .pngBadTag]

/-- A fault that FINISH can report. -/
def EndFault (t : State) : Prop := ∃ cause sym u, t = faultEntry cause sym u ∧ cause ∈ endCauses

theorem PredFault.endFault {s t : State} (h : PredFault s t) : EndFault t := by
  obtain ⟨-, sym, u, ht⟩ | ⟨-, u, ht⟩ := h
  · exact ⟨_, sym, u, ht, by decide⟩
  · exact ⟨_, _, u, ht, by decide⟩

theorem EndFault.phase {t : State} (h : EndFault t) : t.phase = .error := by
  obtain ⟨_, _, _, rfl, -⟩ := h
  rfl

theorem PredFault.phase {s t : State} (h : PredFault s t) : t.phase = .error := h.endFault.phase

theorem a85DecFinish_outcome {s : State} (ha : s.phase = .active) :
    (a85DecFinish s).phase = .active ∨ EndFault (a85DecFinish s) := by
  unfold a85DecFinish
  split
  · exact .inl ha
  · exact .inr ⟨_, _, s, rfl, by decide⟩

theorem ahxDecFinish_outcome {s : State} (ha : s.phase = .active) (d : AhxDec) :
    (ahxDecFinish d s).phase = .active ∨ EndFault (ahxDecFinish d s) := by
  unfold ahxDecFinish
  split
  · exact .inl ha
  · split
    · exact .inr ⟨_, _, s, rfl, by decide⟩
    · exact .inr ⟨_, _, s, rfl, by decide⟩

theorem lzwDecFinish_outcome {s : State} (ha : s.phase = .active) (d : LzwDec) :
    (lzwDecFinish d s).phase = .active ∨ EndFault (lzwDecFinish d s) := by
  unfold lzwDecFinish
  split
  · exact .inl ha
  · split
    · exact .inr ⟨_, _, s, rfl, by decide⟩
    · exact .inr ⟨_, _, s, rfl, by decide⟩

/-- The predictor's end of stream, then the encoder's, which cannot fault. -/
theorem lzwEncFlush_predFinish_outcome {s : State} (ha : s.phase = .active) :
    (unlessFaulted lzwEncFlush (predFinish s)).phase = .active ∨
      PredFault s (unlessFaulted lzwEncFlush (predFinish s)) := by
  unfold unlessFaulted
  split
  · exact .inl ((lzwEncFlush_runs _).phase.trans ‹_›)
  · exact predFinish_outcome ha

theorem lzwDecFinish_predFinish_outcome {s : State} (ha : s.phase = .active) (d : LzwDec) :
    (unlessFaulted predFinish (lzwDecFinish d s)).phase = .active ∨
      EndFault (unlessFaulted predFinish (lzwDecFinish d s)) := by
  unfold unlessFaulted
  split
  · exact (predFinish_outcome ‹_›).imp_right PredFault.endFault
  · exact lzwDecFinish_outcome ha d

theorem finishStages_outcome {s : State} (ha : s.phase = .active) :
    (finishStages s).phase = .active ∨ EndFault (finishStages s) := by
  have hopen : (openStream s).phase = .active := (openStream_runs s).phase.trans ha
  unfold finishStages
  split
  · exact .inl ha
  · exact .inl ha
  · exact a85DecFinish_outcome ha
  · exact .inl ha
  · exact ahxDecFinish_outcome ha _
  · split
    · exact lzwDecFinish_predFinish_outcome ha _
    · exact lzwDecFinish_outcome ha _
  · split
    · exact (lzwEncFlush_predFinish_outcome hopen).imp_right PredFault.endFault
    · exact .inl ((lzwEncFlush_runs _).phase.trans hopen)
  · exact (predFinish_outcome ha).imp_right PredFault.endFault

/-! ## FINISH (R133, R268) -/

theorem exec_finish {s : State} {c : Codec} (ha : s.phase = .active) (hc : s.codec = some c) :
    exec .finish s = .next (finishActive s) := execFinish_active ha hc

theorem finishActive_done {s : State} (h : (finishStages { s with out := [] }).phase = .active) :
    finishActive s =
      { finishStages { s with out := [] } with codec := none, rows := none, phase := .done, rsp := okWord } := by
  simp only [finishActive, if_pos h]
  rfl

theorem finishActive_faulted {s : State} (h : (finishStages { s with out := [] }).phase ≠ .active) :
    finishActive s = finishStages { s with out := [] } := by
  simp only [finishActive, if_neg h]

/-- Settles O17: the frame of the end-of-stream rules, and their causes. -/
theorem finishCompletes : Obligations.FinishCompletes := by
  unfold Obligations.FinishCompletes
  intro s c ha hc
  refine ⟨_, exec_finish ha hc, ?_⟩
  have hrules := finishStages_rules { s with out := [] }
  have hfin : (finishStages { s with out := [] }).fin = s.fin := finishStages_fin _
  obtain hactive | ⟨cause, sym, u, ht, hcause⟩ := finishStages_outcome (s := { s with out := [] }) ha
  · have hruns := hrules.runs hactive
    rw [finishActive_done hactive]
    exact ⟨hruns.inp, hruns.keeps, hfin, rfl, rfl, .inl ⟨rfl, rfl, hruns.errkind, hruns.errinfo⟩⟩
  · have herror : (finishStages { s with out := [] }).phase ≠ .active := by
      rw [ht]
      exact fun h => nomatch h
    rw [finishActive_faulted herror]
    obtain hruns | hfaults := hrules
    · exact absurd (hruns.phase.trans ha) herror
    · refine ⟨hfaults.inp, hfaults.keeps, hfin, ?_⟩
      rw [ht]
      exact ⟨rfl, rfl, .inr ⟨cause, sym, rfl, rfl, hcause, rfl, rfl, rfl⟩⟩

/-! ## Encoders (R264) -/

/-- An encoder's codec state: no decoder of text or codes (R132). -/
def Encodes (s : State) : Prop :=
  ∀ c, s.codec = some c → (∀ d, c ≠ .a85Dec d) ∧ (∀ d, c ≠ .ahxDec d) ∧ (∀ d, c ≠ .lzwDec d)

theorem encodes_lzwEnc {s : State} {e : LzwEnc} (h : s.codec = some (.lzwEnc e)) : Encodes s := fun c hc => by
  obtain rfl := Option.some.inj (h.symm.trans hc)
  simp

theorem Encodes.of_codec_eq {s t : State} (h : Encodes s) (hc : t.codec = s.codec) : Encodes t :=
  fun c ht => h c (hc.symm.trans ht)

theorem encodes_faultEntry (cause : Cause) (sym : Code) (s : State) : Encodes (faultEntry cause sym s) :=
  fun _ h => nomatch h

theorem Encodes.lzwEncFeed {s : State} (h : Encodes s) (b : Byte) : Encodes (lzwEncFeed b s) := by
  unfold Machine.lzwEncFeed
  split
  · exact encodes_lzwEnc rfl
  · exact h

theorem Encodes.foldl_lzwEncFeed {s : State} (h : Encodes s) (bytes : List Byte) :
    Encodes (bytes.foldl (fun t b => Machine.lzwEncFeed b t) s) := by
  induction bytes generalizing s with
  | nil => exact h
  | cons b bs ih => exact ih (h.lzwEncFeed b)

theorem Encodes.predSink {s : State} (h : Encodes s) (bytes : List Byte) : Encodes (predSink bytes s) := by
  unfold Machine.predSink
  split
  · exact h.foldl_lzwEncFeed bytes
  · exact h

theorem Encodes.rowAnswer {s : State} (h : Encodes s) (a : Answer (List Byte)) : Encodes (rowAnswer a s) := by
  cases a with
  | raise cause sym => exact encodes_faultEntry cause sym s
  | emit prev bytes term =>
    have hset : Encodes { s with rows := some { cur := [], prev := prev } } := h.of_codec_eq rfl
    exact hset.predSink bytes

theorem Encodes.predByte {s : State} (h : Encodes s) (x : Byte) : Encodes (predByte x s) := by
  unfold Machine.predByte
  split
  · exact h.predSink [x]
  · dsimp only
    split
    · exact h.rowAnswer _
    · exact h

theorem Encodes.openStream {s : State} (h : Encodes s) : Encodes (openStream s) := by
  unfold Machine.openStream
  split
  · exact encodes_lzwEnc rfl
  · exact h

/-- A byte of an encoder's payload: `fin` stands, and only the predictor can fault. -/
theorem Encodes.byteStep {s : State} (h : Encodes s) (ha : s.phase = .active) (b : Byte) :
    Encodes (byteStep b s) ∧ (byteStep b s).fin = s.fin ∧
      ((byteStep b s).phase = .active ∨ TagFault s (byteStep b s)) := by
  unfold Machine.byteStep
  split
  next => exact ⟨h, rfl, .inl ha⟩
  next =>
    refine ⟨fun c hc => ?_, rfl, .inl ha⟩
    obtain rfl := Option.some.inj hc
    simp
  next d hd => exact absurd rfl ((h _ hd).1 d)
  next => exact ⟨h, rfl, .inl ha⟩
  next d hd => exact absurd rfl ((h _ hd).2.1 d)
  next d hd => exact absurd rfl ((h _ hd).2.2 d)
  next =>
    split
    · exact ⟨h.predByte b, predByte_fin b s, predByte_outcome ha b⟩
    · exact ⟨h.lzwEncFeed b, lzwEncFeed_fin b s, .inl ((lzwEncFeed_runs b s).phase.trans ha)⟩
  next => exact ⟨h.predByte b, predByte_fin b s, predByte_outcome ha b⟩

theorem Encodes.pushBytes {s : State} (h : Encodes s) (bytes : List Byte) :
    (pushBytes bytes s).fin = s.fin ∧ (s.phase = .active → s.dir = .enc → (pushBytes bytes s).phase = .active) := by
  induction bytes generalizing s with
  | nil => exact ⟨rfl, fun ha _ => ha⟩
  | cons b bs ih =>
    unfold Machine.pushBytes
    split
    next ha =>
      obtain ⟨hstep, hfin, houtcome⟩ := h.byteStep ha b
      obtain ⟨hrest, hactive⟩ := ih hstep
      refine ⟨hrest.trans hfin, fun _ hdir => ?_⟩
      obtain hstepActive | ⟨hdec, -⟩ := houtcome
      · exact hactive hstepActive (((byteStep_rules b s).runs hstepActive).keeps.dir.trans hdir)
      · exact absurd (hdir.symm.trans hdec) (by decide)
    next hna => exact ⟨rfl, fun ha => absurd ha hna⟩

/-! ## PUSH (R132, R268) -/

/-- Settles O16: the frame of the byte rules. -/
theorem pushCompletes : Obligations.PushCompletes := by
  unfold Obligations.PushCompletes
  intro s c ha hc hf
  refine ⟨_, exec_push ha hc hf, ?_⟩
  set last := pushBytes s.inp (openStream { s with out := [] }) with hlast
  have hrules : Rules { s with out := [] } last := (openStream_runs _).rules (pushBytes_rules _ _)
  have hfin : (∀ d, c ≠ .a85Dec d) ∧ (∀ d, c ≠ .ahxDec d) ∧ (∀ d, c ≠ .lzwDec d) → last.fin = s.fin := fun hnot => by
    have hencodes : Encodes { s with out := [] } := fun c' hc' => by
      obtain rfl := Option.some.inj (hc.symm.trans hc')
      exact hnot
    rw [hlast, (hencodes.openStream.pushBytes _).1, openStream_fin]
  obtain hruns | hfaults := hrules
  · rw [answerPush_active (hruns.phase.trans ha)]
    refine ⟨rfl, hruns.keeps, hruns.fin, hfin, .inl ⟨hruns.phase.trans ha, rfl, ?_, hruns.errkind, hruns.errinfo⟩⟩
    have hsome : last.codec.isSome = true := hruns.codec.trans (by simp [hc])
    exact Option.isSome_iff_ne_none.1 hsome
  · rw [answerPush_inactive (by simp [hfaults.phase])]
    obtain ⟨cause, sym, u, ht⟩ := hfaults.entry
    refine ⟨rfl, hfaults.keeps, hfaults.fin, hfin, ?_⟩
    rw [ht]
    exact .inr ⟨cause, sym, rfl, rfl, rfl, rfl, rfl, rfl, rfl⟩

theorem PredFault.of_keeps {s t u : State} (h : PredFault t u) (hk : KeepsRegisters s t) : PredFault s u := by
  unfold PredFault TagFault at *
  rwa [hk.dir, hk.latch] at h

/-- FINISH of an encoder: only the predictor's end of stream can fault (R264). -/
theorem Encodes.finishStages {s : State} (h : Encodes s) (ha : s.phase = .active) :
    (finishStages s).phase = .active ∨ PredFault s (finishStages s) := by
  have hopen := openStream_runs s
  have hopenActive := hopen.phase.trans ha
  unfold Machine.finishStages
  split
  next => exact .inl ha
  next => exact .inl ha
  next d hd => exact absurd rfl ((h _ hd).1 d)
  next => exact .inl ha
  next d hd => exact absurd rfl ((h _ hd).2.1 d)
  next d hd => exact absurd rfl ((h _ hd).2.2 d)
  next =>
    split
    · exact (lzwEncFlush_predFinish_outcome hopenActive).imp_right fun hp => hp.of_keeps hopen.keeps
    · exact .inl ((lzwEncFlush_runs _).phase.trans hopenActive)
  next => exact predFinish_outcome ha

/-- FINISH of an encoder without a predictor does not fault (R142, R162, R192). -/
theorem finishStages_plain {s : State} {c : Codec} (ha : s.phase = .active) (hc : s.codec = some c)
    (hplain : (∃ ebuf, c = .a85Enc ebuf) ∨ c = .ahxEnc ∨ (∃ e, c = .lzwEnc e) ∧ s.chain = false) :
    (finishStages s).phase = .active := by
  obtain ⟨ebuf, rfl⟩ | rfl | ⟨⟨e, rfl⟩, hchain⟩ := hplain
  · simp [finishStages, hc, ha]
  · simp [finishStages, hc, ha]
  · simp only [finishStages, hc, hchain, Bool.false_eq_true, if_false]
    exact (lzwEncFlush_runs _).phase.trans ((openStream_runs s).phase.trans ha)

/-- Settles O57: an encoder's only faults are the predictor's, and an encode has no tag to fault. -/
theorem encodersNeverFault : Obligations.EncodersNeverFault := by
  unfold Obligations.EncodersNeverFault
  intro s t c ha hdir hc hencoder
  have hencodes : Encodes { s with out := [] } := fun c' hc' => by
    obtain rfl := Option.some.inj (hc.symm.trans hc')
    obtain ⟨_, rfl⟩ | rfl | ⟨_, rfl⟩ | rfl := hencoder <;> simp
  refine ⟨fun hx => ?push, fun hx => ?finish⟩
  case push =>
    by_cases hf : PayloadFits s
    · obtain rfl := Host.Outcome.next.inj ((exec_push ha hc hf).symm.trans hx)
      have hruns := openStream_runs { s with out := [] }
      rw [answerPush_phase]
      exact .inl ((hencodes.openStream.pushBytes _).2 (hruns.phase.trans ha) (hruns.keeps.dir.trans hdir))
    · obtain rfl := Host.Outcome.next.inj ((execPush_rejected (.inr hf)).symm.trans hx)
      exact .inr rfl
  case finish =>
    obtain rfl := Host.Outcome.next.inj ((exec_finish ha hc).symm.trans hx)
    refine ⟨?_, fun hplain => ?_⟩
    · obtain hactive | ⟨hdec, -⟩ | ⟨hstrict, u, ht⟩ := hencodes.finishStages ha
      · rw [finishActive_done hactive]
        exact .inl rfl
      · exact absurd (hdir.symm.trans hdec) (by decide)
      · rw [finishActive_faulted (by simp [ht]), ht]
        exact .inr ⟨rfl, rfl, hstrict⟩
    · rw [finishActive_done (finishStages_plain ha hc hplain)]

end Sys2Proof.Machine
end

section
/-! # Codec states stay well-formed (R37 to R42, R46) -/

namespace Sys2Proof.Machine

/-- A rule's answer raises a cause of a codec, or leaves a state for which `ok` holds, given the `fin` it sets. -/
def Answer.Leaves {σ : Type} (ok : σ → Bool → Prop) : Answer σ → Prop
  | .raise cause _ => cause ≠ .cmdIllegal
  | .emit st _ term => ok st term

/-! ## Base-85 and base-16 text -/

section
variable {d : A85Dec} {ch : Byte}

theorem a85Gt_leaves (d : A85Dec) : (a85Gt d).Leaves A85Dec.Ok := by
  have hclosed : A85Dec.Ok { dig := [], tilde := false } true := ⟨by simp, by simp, by simp⟩
  unfold a85Gt
  dsimp only
  split
  · exact hclosed
  · split
    · exact Cause.noConfusion
    · exact hclosed

variable (h : d.Ok false)
include h

theorem a85Digit_leaves (hch : ch.toNat ≤ 0x75) : (a85Digit ch d).Leaves A85Dec.Ok := by
  obtain ⟨hlen, hdigits, -⟩ := h
  by_cases hfull : d.dig.length = 4
  · rw [a85Digit_completes hfull]
    split
    · exact Cause.noConfusion
    · exact ⟨by simp, by simp, by simp⟩
  · rw [a85Digit_joins (by omega)]
    refine ⟨by simp; omega, fun x hx => ?_, by simp⟩
    obtain hx | hx := List.mem_append.1 hx
    · exact hdigits x hx
    · obtain rfl := List.mem_singleton.1 hx
      omega

theorem a85Z_leaves : (a85Z d).Leaves A85Dec.Ok := by
  unfold a85Z
  split
  · exact Cause.noConfusion
  · exact h

theorem a85DecByte_leaves : (a85DecByte ch d).Leaves A85Dec.Ok := by
  unfold a85DecByte
  split_ifs with hws hgt htilde hmark hz hdigit
  · exact h
  · exact a85Gt_leaves d
  · exact Cause.noConfusion
  · exact ⟨h.1, h.2.1, by simp⟩
  · exact a85Z_leaves h
  · exact a85Digit_leaves h hdigit.2
  · exact Cause.noConfusion

end

theorem ahxHex_leaves (v : BitVec 4) (d : AhxDec) : (ahxHex v d).Leaves AhxDec.Ok := by
  unfold ahxHex
  split
  · exact ⟨fun _ => rfl, fun _ => rfl⟩
  · exact ⟨fun hw => absurd hw (by simp), by simp⟩

theorem ahxDigit_leaves (ch : Byte) (d : AhxDec) : (ahxDigit ch d).Leaves AhxDec.Ok := by
  unfold ahxDigit
  split
  · exact ahxHex_leaves _ d
  · exact Cause.noConfusion

theorem ahxGt_leaves {d : AhxDec} (h : d.Ok false) : (ahxGt d).Leaves AhxDec.Ok := by
  unfold ahxGt
  split
  next => exact ⟨fun _ => rfl, fun _ => rfl⟩
  next hw => exact ⟨h.1, fun _ => by simpa using hw⟩

theorem ahxDecByte_leaves {d : AhxDec} (h : d.Ok false) (ch : Byte) : (ahxDecByte ch d).Leaves AhxDec.Ok := by
  unfold ahxDecByte
  split
  · exact h
  · split
    · exact ahxGt_leaves h
    · exact ahxDigit_leaves ch d

theorem a85EncByte_length {ebuf : List Byte} (h : ebuf.length ≤ 3) (b : Byte) : (a85EncByte b ebuf).1.length ≤ 3 := by
  unfold a85EncByte
  dsimp only
  split
  next => simp
  next hlen =>
    rw [List.length_append, List.length_singleton] at hlen ⊢
    omega

/-! ## LZW codes -/

/-- A mapped code has a string (R40). -/
theorem tabString_ne_nil {tab : List (List Byte)} {c : Nat} (h2 : ∀ str ∈ tab, 2 ≤ str.length) (hc : codeMapped tab c) :
    tabString tab c ≠ [] := by
  obtain hlit | ⟨hlow, hhigh⟩ := hc
  · simp [hlit]
  · have hlt : c - 258 < tab.length := by omega
    have hlen := h2 _ (List.getElem_mem hlt)
    have hrec := tabString_recorded tab (c - 258)
    rw [Nat.add_sub_cancel' hlow, List.getD_eq_getElem _ _ hlt] at hrec
    rw [hrec]
    exact List.ne_nil_of_length_pos (by omega)

theorem codeMapped_append {tab more : List (List Byte)} {c : Nat} (h : codeMapped tab c) : codeMapped (tab ++ more) c := by
  unfold codeMapped at *
  rw [List.length_append]
  omega

section
variable {d : LzwDec} {code : Code} (h : d.Ok false)
include h

theorem lzwEod_leaves : (lzwEod d).Leaves LzwDec.Ok := by
  obtain ⟨h2, hsize, hle, hw, -, -, -, hlast⟩ := h
  exact ⟨h2, hsize, hle, hw, Nat.one_pos, by simp, fun _ => rfl, hlast⟩

theorem lzwFirst_leaves (hclear : code ≠ 256#12) (heod : code ≠ 257#12) : (lzwFirst code d).Leaves LzwDec.Ok := by
  obtain ⟨h2, hsize, hle, hw, hacc, hn, hfin, -⟩ := h
  have h256 := mt (eq_ofNat_iff (x := code) (c := 256) (by decide)).2 hclear
  have h257 := mt (eq_ofNat_iff (x := code) (c := 257) (by decide)).2 heod
  unfold lzwFirst
  split
  · exact Cause.noConfusion
  · refine ⟨h2, hsize, hle, hw, hacc, hn, hfin, fun c hc => ?_⟩
    obtain rfl := Option.some.inj hc
    exact .inl (by omega)

variable (h8 : d.nbits < 8)
include h8

theorem lzwClear_leaves : (lzwClear d).Leaves LzwDec.Ok := by
  obtain ⟨-, -, -, -, hacc, -, -, -⟩ := h
  exact ⟨by simp, rfl, by simp, rfl, hacc, fun _ => by simp; omega, by simp, by simp⟩

theorem lzwNormal_leaves {last : Code} (hlast : d.last = some last) (ht : d.tsize ≠ 4095) (hclear : code ≠ 256#12)
    (heod : code ≠ 257#12) : (lzwNormal last code d).Leaves LzwDec.Ok := by
  obtain ⟨h2, hsize, hle, hw, hacc, -, -, hmapped⟩ := h
  have h256 := mt (eq_ofNat_iff (x := code) (c := 256) (by decide)).2 hclear
  have h257 := mt (eq_ofNat_iff (x := code) (c := 257) (by decide)).2 heod
  have hls := tabString_ne_nil h2 (hmapped last hlast)
  unfold lzwNormal
  dsimp only
  split
  · exact Cause.noConfusion
  · set ls := tabString d.tab last.toNat
    set str := if code.toNat < d.tsize then tabString d.tab code.toNat else ls ++ ls.take 1 with hstr
    have hne : str ≠ [] := by
      rw [hstr]
      split
      · exact tabString_ne_nil h2 (by unfold codeMapped; omega)
      · simp [hls]
    refine ⟨fun s hs => ?_, ?_, ?_, rfl, hacc, fun _ => ?_, by simp, fun c hc => ?_⟩
    · obtain hs | hs := List.mem_append.1 hs
      · exact h2 s hs
      · obtain rfl := List.mem_singleton.1 hs
        have hhead := List.length_pos_of_ne_nil hls
        have htail := List.length_pos_of_ne_nil hne
        simp only [List.length_append, List.length_take]
        omega
    · simp [hsize]; omega
    · simp; omega
    · have := (widthDec_range (d.tsize + 1)).1
      simp; omega
    · obtain rfl := Option.some.inj hc
      unfold codeMapped
      simp
      omega

theorem lzwDecodeStep_leaves (code : Code) : (lzwDecodeStep code d).Leaves LzwDec.Ok := by
  unfold lzwDecodeStep
  split_ifs with hfull heod hclear
  · exact Cause.noConfusion
  · exact lzwEod_leaves h
  · exact lzwClear_leaves h h8
  · split
    · exact lzwFirst_leaves h hclear heod
    · exact lzwNormal_leaves h h8 ‹_› (fun ht => hfull ⟨ht, hclear⟩) hclear heod

end

/-- `ReadCode` keeps the bits held below the width (R46, R177). -/
theorem readCode_ok {d : LzwDec} (h : d.Ok false) (b : Byte) :
    (readCode b d).2.Ok false ∧ ((readCode b d).1 ≠ none → (readCode b d).2.nbits < 8) := by
  obtain ⟨h2, hsize, hle, hw, hacc, hn, -, hmapped⟩ := h
  have hheld := hn rfl
  have hw9 := (widthDec_range d.tsize).1
  rw [readCode_cases]
  split
  next hfull =>
    refine ⟨⟨h2, hsize, hle, hw, Nat.mod_lt _ (Nat.two_pow_pos _), fun _ => ?_, by simp, hmapped⟩, fun _ => ?_⟩
    · show d.nbits + 8 - d.width < d.width
      omega
    · show d.nbits + 8 - d.width < 8
      omega
  next hshort =>
    refine ⟨⟨h2, hsize, hle, hw, ?_, fun _ => Nat.lt_of_not_le hshort, by simp, hmapped⟩, fun hsome => absurd rfl hsome⟩
    have hb := b.isLt
    show d.acc * 256 + b.toNat < 2 ^ (d.nbits + 8)
    rw [pow_add]
    omega

theorem lzwDecInit_ok : lzwDecInit.Ok false :=
  ⟨by simp [lzwDecInit], rfl, by decide, rfl, by decide, fun _ => by decide, by simp, by simp [lzwDecInit]⟩

theorem lzwEncInit_ok (lead : Bool) : (lzwEncInit lead).Ok := by
  refine ⟨by simp [lzwEncInit], by simp [lzwEncInit], rfl, (by decide : 258 ≤ 4095), rfl, Nat.one_pos, Nat.zero_le 7, .inl rfl, ?_⟩
  rintro rfl
  rfl

theorem lzwOpening_ok {e : LzwEnc} (h : e.Ok) : (lzwOpening e).1.Ok := by
  cases hl : e.lead with
  | false => rwa [lzwOpening_opened hl]
  | true =>
    obtain ⟨-, -, -, -, -, -, -, -, hinit⟩ := h
    obtain ⟨_, _, _, -, -, hstep, -⟩ := advances_opening true
    rw [hinit hl]
    exact hstep.ok

end Sys2Proof.Machine
end

section
/-! # The invariant between transactions (R46) -/

namespace Sys2Proof.Machine

/-! ## Updates the invariant does not see -/

/-- The ports, `RSP` and the value read are in no clause of the invariant. -/
theorem Inv.withPorts {s : State} (h : Inv s) (inp out : List Byte) (rsp rdata : Word) (port : List PortOp) :
    Inv { s with inp := inp, out := out, rsp := rsp, rdata := rdata, port := port } :=
  ⟨h.ctrl_reserved, h.codec_active, h.rows_active, h.errkind_error, h.errinfo_clear, h.errinfo_cause, h.idle_clear,
    h.fin_decoder, h.chain_lzw, h.codec_ok, h.latch_ok, h.rows_ok⟩

/-- The parameter registers but `CTRL` are in no clause of the invariant. -/
theorem Inv.withRegisters {s : State} (h : Inv s) (predictor colors bpc columns : Word) {ctrl : Word}
    (hctrl : ctrl &&& ~~~ctrlMask = 0#32) :
    Inv { s with predictor := predictor, colors := colors, bpc := bpc, columns := columns, ctrl := ctrl } :=
  ⟨hctrl, h.codec_active, h.rows_active, h.errkind_error, h.errinfo_clear, h.errinfo_cause, h.idle_clear,
    h.fin_decoder, h.chain_lzw, h.codec_ok, h.latch_ok, h.rows_ok⟩

theorem Inv.emitOut {s : State} (h : Inv s) (bytes : List Byte) : Inv (emitOut bytes s) :=
  h.withPorts _ _ _ _ _

theorem Inv.reject {s : State} (h : Inv s) : Inv (reject s) := h.withPorts _ _ _ _ _

theorem Inv.present {s : State} (h : Inv s) (payload : List Byte) (rest : List PortOp) : Inv (present payload rest s) :=
  h.withPorts _ _ _ _ _

/-! ## Faults -/

theorem Cause.kind_ne_noError (cause : Cause) : cause.kind ≠ .noError := by
  cases cause <;> decide

/-- The entry sequence of a fault, from what survives it: `CTRL`, the descriptor and `fin` (R268). -/
theorem inv_faultEntry {s : State} {cause : Cause} (sym : Code) (hcause : cause ≠ .cmdIllegal)
    (hctrl : s.ctrl &&& ~~~ctrlMask = 0#32) (hfin : s.fin = true → s.dir = .dec ∧ s.unit ≠ .pred)
    (hchain : s.chain = true → s.unit = .lzw) : Inv (faultEntry cause sym s) where
  ctrl_reserved := hctrl
  codec_active := by simp
  rows_active _ := rfl
  errkind_error := by simp [cause.kind_ne_noError]
  errinfo_clear h := absurd rfl h
  errinfo_cause _ := ⟨cause, sym, hcause, rfl, rfl⟩
  idle_clear h := nomatch h
  fin_decoder := hfin
  chain_lzw := hchain
  codec_ok _ h := nomatch h
  latch_ok h := nomatch h
  rows_ok h := nomatch h

theorem Inv.faultEntry {s : State} (h : Inv s) {cause : Cause} (sym : Code) (hcause : cause ≠ .cmdIllegal) :
    Inv (faultEntry cause sym s) :=
  inv_faultEntry sym hcause h.ctrl_reserved h.fin_decoder h.chain_lzw

/-! ## New codec states and rows in an invocation -/

theorem Inv.withCodec {s : State} (h : Inv s) (hc : s.codec ≠ none) (c : Codec) (term : Bool)
    (hok : c.Ok s.unit s.dir (s.fin || term)) (hterm : term = true → s.dir = .dec ∧ s.unit ≠ .pred) :
    Inv { s with codec := some c, fin := s.fin || term } where
  ctrl_reserved := h.ctrl_reserved
  codec_active := iff_of_true (h.codec_active.2 hc) (Option.some_ne_none c)
  rows_active hnone := nomatch hnone
  errkind_error := h.errkind_error
  errinfo_clear := h.errinfo_clear
  errinfo_cause := h.errinfo_cause
  idle_clear hi := absurd (hi.symm.trans (h.codec_active.2 hc)) (by decide)
  fin_decoder hf := (Bool.or_eq_true_iff.1 hf).elim h.fin_decoder hterm
  chain_lzw := h.chain_lzw
  codec_ok c' hc' := by
    obtain rfl := Option.some.inj hc'
    exact hok
  latch_ok := h.latch_ok
  rows_ok := h.rows_ok

theorem Inv.atCodec {s : State} (h : Inv s) (hc : s.codec ≠ none) (c : Codec) (hok : c.Ok s.unit s.dir s.fin) :
    Inv (atCodec c s) := by
  have hnew := h.withCodec hc c false (by rwa [Bool.or_false]) (fun hf => nomatch hf)
  rwa [Bool.or_false] at hnew

theorem Inv.withRows {s : State} (h : Inv s) {r r' : Rows} (hr : s.rows = some r) (hok : r'.Ok s.latch s.dir) :
    Inv { s with rows := some r' } where
  ctrl_reserved := h.ctrl_reserved
  codec_active := h.codec_active
  rows_active hnone := absurd ((h.rows_active hnone).symm.trans hr) (Option.some_ne_none r).symm
  errkind_error := h.errkind_error
  errinfo_clear := h.errinfo_clear
  errinfo_cause := h.errinfo_cause
  idle_clear := h.idle_clear
  fin_decoder := h.fin_decoder
  chain_lzw := h.chain_lzw
  codec_ok := h.codec_ok
  latch_ok := h.latch_ok
  rows_ok ha := by
    obtain ⟨hsome, -⟩ := h.rows_ok ha
    rw [hr] at hsome
    refine ⟨hsome, fun r'' hr'' => ?_⟩
    obtain rfl := Option.some.inj hr''
    exact hok

/-! ## The byte rules -/

theorem Inv.lzwEncFeed {s : State} (h : Inv s) (ho : Opened s) (b : Byte) : Inv (lzwEncFeed b s) := by
  unfold Machine.lzwEncFeed
  split
  next e he =>
    obtain ⟨hunit, hdir, hok⟩ := h.codec_ok _ he
    have hnew : (Codec.lzwEnc (lzwEncByte b e).1).Ok s.unit s.dir s.fin := ⟨hunit, hdir, lzwEncByte_ok hok (ho e he)⟩
    exact (h.atCodec (by simp [he]) _ hnew).emitOut _
  next => exact h

theorem Inv.foldl_lzwEncFeed {s : State} (h : Inv s) (ho : Opened s) (bytes : List Byte) :
    Inv (bytes.foldl (fun t b => Machine.lzwEncFeed b t) s) := by
  induction bytes generalizing s with
  | nil => exact h
  | cons b bs ih => exact ih (h.lzwEncFeed ho b) (opened_lzwEncFeed ho b)

theorem Inv.predSink {s : State} (h : Inv s) (ho : Opened s) (bytes : List Byte) : Inv (predSink bytes s) := by
  unfold Machine.predSink
  split
  · exact h.foldl_lzwEncFeed ho bytes
  · exact h.emitOut bytes

theorem Inv.rowAnswer_rowRule {s : State} (h : Inv s) (ho : Opened s) {r : Rows} (hr : s.rows = some r)
    (hok : r.Ok s.latch s.dir) (unit : List Byte) : Inv (rowAnswer (rowRule s.latch s.dir r.prev unit) s) := by
  obtain ⟨sym, -, hraise⟩ | ⟨prev', bytes, hemit, hprev⟩ := rowRule_cases s.latch s.dir r.prev unit
  · rw [hraise]
    exact h.faultEntry sym Cause.noConfusion
  · have hnew : Rows.Ok { cur := [], prev := prev' } s.latch s.dir := ⟨Nat.zero_lt_of_lt hok.1, hprev hok.2⟩
    have hopened : Opened { s with rows := some { cur := [], prev := prev' } } := ho.of_codec_eq rfl
    rw [hemit, rowAnswer_emit]
    exact (h.withRows hr hnew).predSink hopened bytes

theorem Inv.predByte {s : State} (h : Inv s) (ho : Opened s) (ha : s.phase = .active) (x : Byte) :
    Inv (predByte x s) := by
  unfold Machine.predByte
  split
  next => exact h.predSink ho [x]
  next r hr =>
    have hok := (h.rows_ok ha).2 r hr
    dsimp only
    split
    next => exact h.rowAnswer_rowRule ho hr hok _
    next hshort =>
      refine h.withRows hr ⟨?_, hok.2⟩
      have hcur := hok.1
      rw [List.length_append, List.length_singleton] at hshort ⊢
      omega

theorem Inv.predFeed {s : State} (h : Inv s) (ho : Opened s) (bytes : List Byte) : Inv (predFeed bytes s) := by
  induction bytes generalizing s with
  | nil => exact h
  | cons x xs ih =>
    unfold Machine.predFeed
    split
    · exact ih (h.predByte ho ‹_› x) (opened_predByte ho x)
    · exact h

theorem Inv.lzwDecSink {s : State} (h : Inv s) (ho : Opened s) (bytes : List Byte) : Inv (lzwDecSink bytes s) := by
  unfold Machine.lzwDecSink
  split
  · exact h.predFeed ho bytes
  · exact h.emitOut bytes

/-- An answer of a decoder's rule, applied where that decoder is at work. -/
theorem Inv.applyAnswer {σ : Type} {ok : σ → Bool → Prop} {wrap : σ → Codec} {s : State} (h : Inv s)
    (hc : s.codec ≠ none) {a : Answer σ} (ha : a.Leaves ok) (hf : s.fin = false) (hdir : s.dir = .dec)
    (hunit : s.unit ≠ .pred) (hwrap : ∀ st fin, ok st fin → (wrap st).Ok s.unit s.dir fin) :
    Inv (applyAnswer wrap a s) := by
  cases a with
  | raise cause sym => exact h.faultEntry sym ha
  | emit st bytes term =>
    have hok : (wrap st).Ok s.unit s.dir (s.fin || term) := by
      rw [hf, Bool.false_or]
      exact hwrap st term ha
    exact (h.withCodec hc (wrap st) term hok fun _ => ⟨hdir, hunit⟩).emitOut bytes

theorem Inv.lzwAnswer {s : State} (h : Inv s) (hc : s.codec ≠ none) {a : Answer LzwDec} (ha : a.Leaves LzwDec.Ok)
    (hf : s.fin = false) (hdir : s.dir = .dec) (hunit : s.unit = .lzw) : Inv (lzwAnswer a s) := by
  cases a with
  | raise cause sym => exact h.faultEntry sym ha
  | emit d bytes term =>
    have hok : (Codec.lzwDec d).Ok s.unit s.dir (s.fin || term) := by
      rw [hf, Bool.false_or]
      exact ⟨hunit, hdir, ha⟩
    have hnew := h.withCodec hc (.lzwDec d) term hok fun _ => ⟨hdir, by simp [hunit]⟩
    exact hnew.lzwDecSink (fun _ he => nomatch he) bytes

theorem Inv.lzwDecByte {s : State} {d : LzwDec} (h : Inv s) (hc : s.codec = some (.lzwDec d)) (hf : s.fin = false)
    (b : Byte) : Inv (lzwDecByte b d s) := by
  obtain ⟨hunit, hdir, hok⟩ := h.codec_ok _ hc
  rw [hf] at hok
  have hne : s.codec ≠ none := by simp [hc]
  have hread := readCode_ok hok b
  unfold Machine.lzwDecByte
  split
  next d' heq =>
    rw [heq] at hread
    exact h.atCodec hne _ ⟨hunit, hdir, hf.symm ▸ hread.1⟩
  next code d' heq =>
    rw [heq] at hread
    have hleaves := lzwDecodeStep_leaves hread.1 (hread.2 (Option.some_ne_none code)) code
    exact h.lzwAnswer hne hleaves hf hdir hunit

theorem Inv.byteStep {s : State} (h : Inv s) (ho : Opened s) (ha : s.phase = .active) (b : Byte) :
    Inv (byteStep b s) := by
  have hne := h.codec_active.1 ha
  unfold Machine.byteStep
  split
  next => exact h
  next ebuf hc =>
    obtain ⟨hunit, hdir, hlen⟩ := h.codec_ok _ hc
    have hok : (Codec.a85Enc (a85EncByte b ebuf).1).Ok s.unit s.dir s.fin := ⟨hunit, hdir, a85EncByte_length hlen b⟩
    exact (h.atCodec hne _ hok).emitOut _
  next d hc =>
    obtain ⟨hunit, hdir, hok⟩ := h.codec_ok _ hc
    split
    next => exact h
    next hf =>
      rw [Bool.not_eq_true] at hf
      rw [hf] at hok
      exact h.applyAnswer hne (a85DecByte_leaves hok) hf hdir (by simp [hunit]) fun st fin hst => ⟨hunit, hdir, hst⟩
  next => exact h.emitOut _
  next d hc =>
    obtain ⟨hunit, hdir, hok⟩ := h.codec_ok _ hc
    split
    next => exact h
    next hf =>
      rw [Bool.not_eq_true] at hf
      rw [hf] at hok
      exact h.applyAnswer hne (ahxDecByte_leaves hok b) hf hdir (by simp [hunit]) fun st fin hst => ⟨hunit, hdir, hst⟩
  next d hc =>
    split
    next => exact h
    next hf => exact h.lzwDecByte hc ((Bool.not_eq_true _).mp hf) b
  next =>
    split
    · exact h.predByte ho ha b
    · exact h.lzwEncFeed ho b
  next => exact h.predByte ho ha b

theorem Inv.pushBytes {s : State} (h : Inv s) (ho : Opened s) (bytes : List Byte) : Inv (pushBytes bytes s) := by
  induction bytes generalizing s with
  | nil => exact h
  | cons b bs ih =>
    unfold Machine.pushBytes
    split
    · exact ih (h.byteStep ho ‹_› b) (opened_byteStep ho b)
    · exact h

theorem Inv.openStream {s : State} (h : Inv s) : Inv (openStream s) := by
  unfold Machine.openStream
  split
  next e he =>
    obtain ⟨hunit, hdir, hok⟩ := h.codec_ok _ he
    have hnew : (Codec.lzwEnc (lzwOpening e).1).Ok s.unit s.dir s.fin := ⟨hunit, hdir, lzwOpening_ok hok⟩
    exact (h.atCodec (by simp [he]) _ hnew).emitOut _
  next => exact h

/-! ## The commands -/

theorem Inv.pushActive {s : State} (h : Inv s) : Inv (pushActive s) := by
  have hstart : Inv { s with out := [] } := h.withPorts _ _ _ _ _
  have hlast := hstart.openStream.pushBytes (opened_openStream _) s.inp
  rw [pushActive_eq, answerPush]
  split
  · exact hlast.withPorts _ _ _ _ _
  · exact hlast.withPorts _ _ _ _ _

/-- The codec state and the buffers are discarded at the end of an invocation (R133). -/
theorem inv_done {s t : State} (h : Inv s) (ha : s.phase = .active) (hr : Runs s t) (hfin : t.fin = s.fin) :
    Inv { t with codec := none, rows := none, phase := .done, rsp := okWord } := by
  obtain ⟨-, -, -, -, -, hctrl, hunit, hdir, hchain, -, -, -⟩ := hr.keeps
  have hne : s.phase ≠ .error := ha ▸ by decide
  have hclear : s.errkind = .noError := not_not.1 fun hk => hne (h.errkind_error.2 hk)
  exact {
    ctrl_reserved := hctrl ▸ h.ctrl_reserved
    codec_active := by simp
    rows_active := fun _ => rfl
    errkind_error := by simp [hr.errkind, hclear]
    errinfo_clear := fun _ => hr.errinfo.trans (h.errinfo_clear hne)
    errinfo_cause := fun herr => nomatch herr
    idle_clear := fun hi => nomatch hi
    fin_decoder := by
      show t.fin = true → t.dir = .dec ∧ t.unit ≠ .pred
      rw [hfin, hdir, hunit]
      exact h.fin_decoder
    chain_lzw := by
      show t.chain = true → t.unit = .lzw
      rw [hchain, hunit]
      exact h.chain_lzw
    codec_ok := fun _ hc => nomatch hc
    latch_ok := fun hact => nomatch hact
    rows_ok := fun hact => nomatch hact }

theorem inv_ended {s t : State} (h : Inv s) (hf : Faults s t) (hfin : t.fin = s.fin) (he : EndFault t) : Inv t := by
  obtain ⟨-, -, -, -, -, hctrl, hunit, hdir, hchain, -, -, -⟩ := hf.keeps
  obtain ⟨cause, sym, u, rfl, hcause⟩ := he
  have hne : cause ≠ .cmdIllegal := by
    rintro rfl
    exact absurd hcause (by decide)
  simp only [faultEntry_ctrl, faultEntry_unit, faultEntry_dir, faultEntry_chain, faultEntry_fin] at *
  refine inv_faultEntry sym hne (hctrl ▸ h.ctrl_reserved) ?_ ?_
  · rw [hfin, hdir, hunit]
    exact h.fin_decoder
  · rw [hchain, hunit]
    exact h.chain_lzw

theorem Inv.finishActive {s : State} (h : Inv s) (ha : s.phase = .active) : Inv (finishActive s) := by
  have hstart : Inv { s with out := [] } := h.withPorts _ _ _ _ _
  have hrules := finishStages_rules { s with out := [] }
  have hfin := finishStages_fin { s with out := [] }
  obtain hactive | hend := finishStages_outcome (s := { s with out := [] }) ha
  · rw [finishActive_done hactive]
    exact inv_done hstart ha (hrules.runs hactive) hfin
  · have herror := hend.phase
    rw [finishActive_faulted (by simp [herror])]
    obtain hruns | hfaults := hrules
    · exact absurd (hruns.phase.symm.trans herror) (ha ▸ by decide)
    · exact inv_ended hstart hfaults hfin hend

theorem createdCodec_ok (unit : CodecUnit) (dir : Direction) (l : Latches) :
    (createdCodec unit dir l).Ok unit dir false := by
  have ha85 : A85Dec.Ok { dig := [], tilde := false } false := ⟨by simp, by simp, by simp⟩
  have hahx : AhxDec.Ok { waiting := false, hi := 0#4 } false := ⟨fun _ => rfl, fun _ => rfl⟩
  cases unit <;> cases dir
  case a85.dec => exact ⟨rfl, rfl, ha85⟩
  case a85.enc => exact ⟨rfl, rfl, Nat.zero_le 3⟩
  case ahx.dec => exact ⟨rfl, rfl, hahx⟩
  case ahx.enc => exact ⟨rfl, rfl⟩
  case lzw.dec => exact ⟨rfl, rfl, lzwDecInit_ok⟩
  case lzw.enc => exact ⟨rfl, rfl, lzwEncInit_ok l.leadclr⟩
  all_goals exact rfl

/-- The checks of START leave rows of at least one byte (R33, R34). -/
theorem unitBytes_pos {cfg : Config} {unit : CodecUnit} {dir : Direction} {l : Latches}
    (h : startChecks cfg unit dir l = true) (hon : predictorOn unit l = true) : 0 < l.unitBytes dir := by
  obtain ⟨-, hpred⟩ := (startChecks_iff _ _ _ _).1 h
  obtain ⟨hcolors, hcolumns, hbpc, -, -⟩ := hpred ((predictorOn_iff _ _).1 hon)
  have hbpc1 : 1 ≤ l.bpc.toNat := by
    simp only [List.mem_cons, List.not_mem_nil, or_false] at hbpc
    omega
  have hrow := rowBytes_pos hcolumns hcolors hbpc1
  unfold Latches.unitBytes
  split <;> omega

theorem startRows_ok {cfg : Config} {unit : CodecUnit} {dir : Direction} {l : Latches}
    (h : startChecks cfg unit dir l = true) :
    (startRows unit l).isSome = predictorOn unit l ∧ ∀ r, startRows unit l = some r → r.Ok l dir := by
  unfold startRows
  cases hon : predictorOn unit l with
  | false => exact ⟨rfl, fun r hr => nomatch hr⟩
  | true =>
    refine ⟨rfl, fun r hr => ?_⟩
    obtain rfl := Option.some.inj hr
    exact ⟨unitBytes_pos h hon, List.length_replicate⟩

theorem Inv.startWith {s : State} (h : Inv s) (unit : CodecUnit) (dir : Direction) :
    Inv (startWith unit dir (createdCodec unit dir) s) := by
  have hchain : (startLatch unit dir s).chain = true → (startLatch unit dir s).unit = .lzw := by
    intro hc
    exact (beq_iff_eq.1 (Bool.and_eq_true_iff.1 hc).1)
  rw [startWith_cases]
  split
  next hchecks =>
    exact {
      ctrl_reserved := h.ctrl_reserved
      codec_active := by simp
      rows_active := fun hnone => nomatch hnone
      errkind_error := by simp
      errinfo_clear := fun _ => rfl
      errinfo_cause := fun herr => nomatch herr
      idle_clear := fun hi => nomatch hi
      fin_decoder := fun hf => nomatch hf
      chain_lzw := hchain
      codec_ok := fun c hc => by
        obtain rfl := Option.some.inj hc
        exact createdCodec_ok unit dir _
      latch_ok := fun _ => ⟨hchecks, rfl⟩
      rows_ok := fun _ => startRows_ok hchecks }
  next => exact inv_faultEntry _ Cause.noConfusion h.ctrl_reserved (fun hf => nomatch hf) hchain

/-- A state without an invocation and without a fault. -/
theorem inv_idle {s : State} (hctrl : s.ctrl &&& ~~~ctrlMask = 0#32) (hphase : s.phase = .idle) (hunit : s.unit = .a85)
    (hdir : s.dir = .dec) (hchain : s.chain = false) (hfin : s.fin = false) (hkind : s.errkind = .noError)
    (hinfo : s.errinfo = 0#32) (hcodec : s.codec = none) (hrows : s.rows = none) : Inv s where
  ctrl_reserved := hctrl
  codec_active := by simp [hphase, hcodec]
  rows_active _ := hrows
  errkind_error := by simp [hphase, hkind]
  errinfo_clear _ := hinfo
  errinfo_cause h := absurd (hphase.symm.trans h) (by decide)
  idle_clear _ := ⟨hunit, hdir, hchain, hfin⟩
  fin_decoder h := absurd (hfin.symm.trans h) (by decide)
  chain_lzw h := absurd (hchain.symm.trans h) (by decide)
  codec_ok c h := absurd (hcodec.symm.trans h) (Option.some_ne_none c).symm
  latch_ok h := absurd (hphase.symm.trans h) (by decide)
  rows_ok h := absurd (hphase.symm.trans h) (by decide)

theorem inv_resetBlock (s : State) : Inv (resetBlock s) :=
  inv_idle (by decide : State.reset.ctrl &&& ~~~ctrlMask = 0#32) rfl rfl rfl rfl rfl rfl rfl rfl rfl

/-- Settles O58: after reset there is no invocation and no fault. -/
theorem resetInvariant : Obligations.ResetInvariant := inv_resetBlock State.reset

theorem Inv.abort {s t : State} (h : Inv s) (hx : exec .abort s = .next t) : Inv t := by
  obtain rfl := Host.Outcome.next.inj hx
  exact inv_idle h.ctrl_reserved rfl rfl rfl rfl rfl rfl rfl rfl rfl

theorem Inv.push {s t : State} (h : Inv s) (hx : exec .push s = .next t) : Inv t := by
  obtain hr | hr | hr := execPush_cases s
  · obtain rfl := Host.Outcome.next.inj (hr.symm.trans hx)
    exact h.reject
  · obtain rfl := Host.Outcome.next.inj (hr.symm.trans hx)
    exact h.pushActive
  · cases hr.symm.trans hx

theorem Inv.finish {s t : State} (h : Inv s) (hx : exec .finish s = .next t) : Inv t := by
  by_cases ha : s.phase = .active
  · obtain ⟨c, hc⟩ := Option.ne_none_iff_exists'.1 (h.codec_active.1 ha)
    obtain rfl := Host.Outcome.next.inj ((exec_finish ha hc).symm.trans hx)
    exact h.finishActive ha
  · obtain rfl := Host.Outcome.next.inj ((execFinish_rejected ha).symm.trans hx)
    exact h.reject

theorem Inv.start {s t : State} (h : Inv s) (unit : CodecUnit) (dir : Direction)
    (hx : exec (startInstr unit dir) s = .next t) : Inv t := by
  obtain rfl := Host.Outcome.next.inj ((exec_start unit dir s).symm.trans hx)
  exact h.startWith unit dir

/-- The commands of the table: four, and the START of each unit and direction (R92). -/
theorem command_cases : ∀ p ∈ commandTable, p.2 ∈ [Instr.nop, .abort, .push, .finish] ∨
    ∃ u ∈ [CodecUnit.a85, .ahx, .lzw, .pred], ∃ d ∈ [Direction.dec, .enc], p.2 = startInstr u d := by
  decide

theorem Inv.command {s t : State} {w : Word} {i : Instr} (h : Inv s) (hi : decode (.cmd w) = some i)
    (hx : exec i s = .next t) : Inv t := by
  obtain hplain | ⟨unit, -, dir, -, hstart⟩ := command_cases _ (mem_commandTable_of_decodeCmd hi)
  · simp only [List.mem_cons, List.not_mem_nil, or_false] at hplain
    obtain rfl | rfl | rfl | rfl := hplain
    · obtain rfl := Host.Outcome.next.inj hx
      exact h.withPorts _ _ _ _ _
    · exact h.abort hx
    · exact h.push hx
    · exact h.finish hx
  · obtain rfl : i = startInstr unit dir := hstart
    exact h.start unit dir hx

/-! ## The steps -/

theorem Inv.writeRegister {s : State} (h : Inv s) (offset : Nat) (v : Word) : Inv (writeRegister offset v s) := by
  have hmasked : v &&& ctrlMask &&& ~~~ctrlMask = 0#32 := by
    rw [BitVec.and_assoc, BitVec.and_not_self]
    exact BitVec.and_zero
  unfold Machine.writeRegister
  split_ifs
  case pos => exact h.withRegisters _ _ _ _ h.ctrl_reserved
  case pos => exact h.withRegisters _ _ _ _ h.ctrl_reserved
  case pos => exact h.withRegisters _ _ _ _ h.ctrl_reserved
  case pos => exact h.withRegisters _ _ _ _ h.ctrl_reserved
  case pos => exact h.withRegisters _ _ _ _ hmasked
  case neg => exact h

theorem Inv.writeAccess {s t : State} (h : Inv s) {offset : Nat} {v : Word} (hx : writeAccess offset v s = .next t) :
    Inv t := by
  unfold Machine.writeAccess at hx
  split at hx
  · obtain rfl := Host.Outcome.next.inj hx
    exact h.writeRegister offset v
  · cases hx

theorem Inv.readAccess {s t : State} (h : Inv s) {offset : Nat} (hx : readAccess offset s = .next t) : Inv t := by
  unfold Machine.readAccess at hx
  split at hx
  · obtain rfl := Host.Outcome.next.inj hx
    exact h.withPorts _ _ _ _ _
  · cases hx

/-- Settles O59: by the entry of the port, and for a write to `CMD` by the command. -/
theorem stepKeepsInvariant : Obligations.StepKeepsInvariant := by
  unfold Obligations.StepKeepsInvariant
  intro s t h hx
  have hrest (rest : List PortOp) : Inv { s with port := rest } := h.withPorts _ _ _ _ _
  match hport : s.port with
  | [] =>
    obtain rfl := Host.Outcome.next.inj ((step_idle hport).symm.trans hx)
    exact h
  | .write offset v payload :: rest =>
    by_cases hoffset : offset = 0
    · subst hoffset
      cases hi : decode (.cmd v) with
      | some i => exact (h.present payload rest).command hi ((step_command hport hi).symm.trans hx)
      | none =>
        obtain rfl := Host.Outcome.next.inj ((step_illegal hport hi).symm.trans hx)
        exact (h.present payload rest).reject
    · exact (hrest rest).writeAccess ((step_write hport hoffset).symm.trans hx)
  | .read offset :: rest => exact (hrest rest).readAccess ((step_read hport).symm.trans hx)
  | .reset :: rest =>
    obtain rfl := Host.Outcome.next.inj ((step_reset hport).symm.trans hx)
    exact inv_resetBlock _

end Sys2Proof.Machine
end

section
/-! # A chained LZW invocation is its two units in a row (R253)

The state of a chained invocation is that of PRED alone, with the LZW codec in place of the predictor's: in a decode
PRED alone has taken what LZW alone has emitted, in an encode the LZW encoder has taken what PRED alone has emitted.
The predictor's rules respect both pictures, so a chained invocation ends as the second unit does on the first unit's
output. -/

namespace Sys2Proof.Machine

/-! ## What a whole input comes to -/

/-- The output of a transaction that did not fault. -/
def completed (s : State) : Option (List Byte) := if s.phase = .active then some s.out else none

theorem completed_active {s : State} (h : s.phase = .active) : completed s = some s.out := if_pos h

theorem completed_inactive {s : State} (h : s.phase ≠ .active) : completed s = none := if_neg h

theorem unlessFaulted_active {f : State → State} {s : State} (h : s.phase = .active) : unlessFaulted f s = f s := if_pos h

theorem unlessFaulted_inactive {f : State → State} {s : State} (h : s.phase ≠ .active) : unlessFaulted f s = s := if_neg h

/-- What an answer delivers: its output, where the response is `OK` (R106). -/
def okOutput (a : Word × List Byte) : Option (List Byte) := if a.1 = okWord then some a.2 else none

theorem okOutput_withSent_nil (a : Word × List Byte) : okOutput (withSent [] a) = okOutput a := by
  unfold okOutput withSent
  split
  · rfl
  · rfl

/-- The response `OK` marks the transactions that did not fault. -/
theorem okOutput_answerOf {s t : State} (h : Rules s t) (ha : s.phase = .active) :
    okOutput (answerOf t) = completed t := by
  obtain hruns | hfaults := h
  · have hact := hruns.phase.trans ha
    rw [answerOf, if_pos hact, completed_active hact]
    exact if_pos rfl
  · rw [answerOf_faulted hfaults, completed_inactive (by simp [hfaults.phase])]
    exact if_neg hfaults.rsp_ne_okWord

theorem transcode_eq_okOutput {unit : CodecUnit} {dir : Direction} {s : State} {b : List Byte}
    (hmax : s.cfg.chunkMax = none) : transcode unit dir b s = okOutput (invocationAnswer unit dir b s) := by
  have hfit : PayloadsFit [b] s := fun m hm => absurd (hmax.symm.trans hm) (Option.some_ne_none m).symm
  have houtcome := outcome_eq_invocationAnswer unit dir hfit
  rw [List.flatten_singleton] at houtcome
  rw [transcode, houtcome]
  rfl

section
variable {unit : CodecUnit} {dir : Direction} {s : State} (hmax : s.cfg.chunkMax = none) (b : List Byte)
include hmax

/-- The result of a unit run on a whole input (R106), where `CHUNK_MAX` is "no limit". -/
theorem transcode_eq_completed (h : startChecks s.cfg unit dir (latchOf s) = true) :
    transcode unit dir b s =
      completed (unlessFaulted finishStages (pushBytes b (openStream (started unit dir s)))) := by
  have hrun := startWith_running (createdCodec unit dir) (s := present [] [] s) h
  have hout : (startWith unit dir (createdCodec unit dir) (present [] [] s)).out = [] := by
    rw [startWith_cases]
    split <;> rfl
  rw [transcode_eq_okOutput hmax, invocationAnswer]
  simp only [h, if_true, hout, okOutput_withSent_nil]
  exact okOutput_answerOf (wholeInput_rules b _) hrun.phase

theorem transcode_eq_none (h : ¬ startChecks s.cfg unit dir (latchOf s) = true) : transcode unit dir b s = none := by
  have hfaults := startWith_faults (createdCodec unit dir) (s := present [] [] s) h
  rw [transcode_eq_okOutput hmax, invocationAnswer]
  simp only [h]
  exact if_neg hfaults.rsp_ne_okWord

theorem transcode_of_codes {out : List Byte} (h : Codes unit dir s b out) : transcode unit dir b s = some out := by
  have hfit : PayloadsFit [b] s := fun m hm => absurd (hmax.symm.trans hm) (Option.some_ne_none m).symm
  rw [transcode, h [b] (List.flatten_singleton) hfit]
  exact if_pos rfl

end

/-! ## Without a predictor -/

theorem startChecks_pred_one (cfg : Config) (dir : Direction) {l : Latches} (h : l.pred = 1#32) :
    startChecks cfg .pred dir l = true := by
  simp [startChecks, predictorOn, Latches.predLegal, h]

/-- With `L_PRED = 1` the predictor is the identity (R211). -/
theorem transcode_pred_one {s : State} (hmax : s.cfg.chunkMax = none) (hp : s.predictor = 1#32) (dir : Direction)
    (b : List Byte) : transcode .pred dir b s = some b :=
  transcode_of_codes hmax b (codes_pred_identity (startChecks_pred_one _ _ hp) hp)

theorem withPredictor_one {s : State} (hp : s.predictor = 1#32) : { s with predictor := 1#32 } = s := by
  rw [← hp]

/-- The LZW unit alone, as encoder (R188, R189, R192). -/
theorem transcode_lzw_enc {s : State} (hmax : s.cfg.chunkMax = none) (hp : s.predictor = 1#32) (b : List Byte) :
    transcode .lzw .enc b s = some (lzwEncode (latchOf s).leadclr b) := by
  have hcheck := startChecks_lzw s.cfg .enc (l := latchOf s) hp
  refine transcode_of_codes hmax b (codes_of_opened hcheck ?_)
  rw [answerOf_lzwEnc (s := started .lzw .enc s) b (lead := (latchOf s).leadclr), started_out, List.nil_append]
  all_goals rw [started_eq hcheck]
  · rfl
  · simp [latchOf, hp]

/-! ## PRED alone -/

/-- PRED alone is at work, or has faulted. -/
structure PredAlone (dir : Direction) (s : State) : Prop where
  dir : s.dir = dir
  chain : s.chain = false
  codec : s.phase = .active → s.codec = some .pred

theorem predByte_codec {s : State} (hch : s.chain = false) (x : Byte) (ha : (predByte x s).phase = .active) :
    (predByte x s).codec = s.codec := by
  unfold Machine.predByte at ha ⊢
  split
  next => rw [predSink_unchained hch, emitOut_codec]
  next r hr =>
    simp only [hr] at ha ⊢
    split
    next hfull =>
      rw [if_pos hfull] at ha
      obtain ⟨sym, -, hraise⟩ | ⟨prev', bytes, hemit, -⟩ := rowRule_cases s.latch s.dir r.prev (r.cur ++ [x])
      · rw [hraise] at ha
        exact nomatch ha
      · rw [hemit, rowAnswer_emit, predSink_unchained (s := { s with rows := some { cur := [], prev := prev' } }) hch]
        rfl
    next => rfl

theorem KeepsRegisters.predAlone {dir : Direction} {s t : State} (hk : KeepsRegisters s t) (h : PredAlone dir s)
    (hc : t.phase = .active → t.codec = some .pred) : PredAlone dir t :=
  ⟨hk.dir.trans h.dir, hk.chain.trans h.chain, hc⟩

theorem PredAlone.predByte {dir : Direction} {s : State} (h : PredAlone dir s) (ha : s.phase = .active) (x : Byte) :
    PredAlone dir (predByte x s) :=
  KeepsRegisters.predAlone ((predByte_rules x s).elim (·.keeps) (·.keeps)) h
    fun hact => (predByte_codec h.chain x hact).trans (h.codec ha)

theorem PredAlone.predFeed {dir : Direction} {s : State} (h : PredAlone dir s) (bytes : List Byte) :
    PredAlone dir (predFeed bytes s) := by
  induction bytes generalizing s with
  | nil => exact h
  | cons x xs ih =>
    unfold Machine.predFeed
    split
    · exact ih (h.predByte ‹_› x)
    · exact h

/-- PUSH to PRED alone feeds the predictor (R132). -/
theorem PredAlone.pushBytes {dir : Direction} {s : State} (h : PredAlone dir s) (bytes : List Byte) :
    pushBytes bytes s = Machine.predFeed bytes s := by
  induction bytes generalizing s with
  | nil => rfl
  | cons x xs ih =>
    unfold Machine.predFeed Machine.pushBytes
    split
    next ha =>
      rw [byteStep_pred (h.codec ha)]
      exact ih (h.predByte ha x)
    next => rfl

/-- What PRED alone makes of a whole input, from the state `s`. -/
def predRun (bytes : List Byte) (s : State) : Option (List Byte) := completed (unlessFaulted predFinish (predFeed bytes s))

theorem PredAlone.completed_eq {dir : Direction} {s : State} (h : PredAlone dir s) (bytes : List Byte) :
    completed (unlessFaulted finishStages (Machine.pushBytes bytes s)) = predRun bytes s := by
  have hlast := h.predFeed bytes
  rw [h.pushBytes, predRun]
  by_cases ha : (Machine.predFeed bytes s).phase = .active
  · rw [unlessFaulted_active ha, unlessFaulted_active ha, finishStages_pred (hlast.codec ha)]
  · rw [unlessFaulted_inactive ha, unlessFaulted_inactive ha]

/-! ## A chained invocation as a picture of PRED alone -/

/-- `q` makes the state of a chained invocation from that of PRED alone: the predictor finds what it reads, and what
it emits goes where the picture says. -/
structure Pictures (dir : Direction) (q : State → State) : Prop where
  phase : ∀ s, (q s).phase = s.phase
  rows : ∀ s, (q s).rows = s.rows
  latch : ∀ s, (q s).latch = s.latch
  dir_eq : ∀ s, (q s).dir = s.dir
  fault : ∀ cause sym s, faultEntry cause sym (q s) = q (faultEntry cause sym s)
  setRows : ∀ s r, { q s with rows := r } = q { s with rows := r }
  sink : ∀ bytes s, s.dir = dir → s.phase = .active → Machine.predSink bytes (q s) = q (emitOut bytes s)

section
variable {dir : Direction} {q : State → State} (hq : Pictures dir q) {s : State} (h : PredAlone dir s)
include hq h

theorem Pictures.rowAnswer (ha : s.phase = .active) (a : Answer (List Byte)) :
    Machine.rowAnswer a (q s) = q (Machine.rowAnswer a s) := by
  cases a with
  | raise cause sym => exact hq.fault cause sym s
  | emit prev bytes term =>
    set t : State := { s with rows := some { cur := [], prev := prev } }
    have hsink := hq.sink bytes t h.dir ha
    rw [rowAnswer_emit, rowAnswer_emit, hq.setRows, hsink, predSink_unchained (s := t) h.chain]

theorem Pictures.predByte (ha : s.phase = .active) (x : Byte) :
    Machine.predByte x (q s) = q (Machine.predByte x s) := by
  have hunit : (q s).latch.unitBytes (q s).dir = s.latch.unitBytes s.dir := by rw [hq.latch, hq.dir_eq]
  unfold Machine.predByte
  rw [hq.rows]
  split
  · rw [hq.sink [x] s h.dir ha, predSink_unchained h.chain]
  · dsimp only
    rw [hunit]
    split
    · rw [hq.latch, hq.dir_eq]
      exact hq.rowAnswer h ha _
    · exact hq.setRows s _

theorem Pictures.predFeed (bytes : List Byte) : Machine.predFeed bytes (q s) = q (Machine.predFeed bytes s) := by
  induction bytes generalizing s with
  | nil => rfl
  | cons x xs ih =>
    unfold Machine.predFeed
    rw [hq.phase]
    split
    next ha =>
      rw [hq.predByte h ha]
      exact ih (h.predByte ha x)
    next => rfl

theorem Pictures.predFinish (ha : s.phase = .active) : Machine.predFinish (q s) = q (Machine.predFinish s) := by
  unfold Machine.predFinish
  rw [hq.rows]
  split
  · rfl
  · rw [hq.latch, hq.dir_eq, hq.fault, hq.rowAnswer h ha, ← apply_ite q, ← apply_ite q]

theorem Pictures.unlessFaulted_predFinish :
    unlessFaulted Machine.predFinish (q s) = q (unlessFaulted Machine.predFinish s) := by
  unfold unlessFaulted
  rw [hq.phase]
  split
  · exact hq.predFinish h ‹_›
  · rfl

end

/-! ## Encode: PRED, then LZW (R252) -/

theorem lzwEncBytes_append (xs ys : List Byte) (e : LzwEnc) :
    lzwEncBytes (xs ++ ys) e =
      ((lzwEncBytes ys (lzwEncBytes xs e).1).1, (lzwEncBytes xs e).2 ++ (lzwEncBytes ys (lzwEncBytes xs e).1).2) := by
  induction xs generalizing e with
  | nil => rfl
  | cons x xs ih => simp only [List.cons_append, lzwEncBytes, ih, List.append_assoc]

theorem foldl_lzwEncFeed_eq (bytes : List Byte) {s : State} {e : LzwEnc} (hc : s.codec = some (.lzwEnc e)) :
    bytes.foldl (fun t b => lzwEncFeed b t) s =
      emitOut (lzwEncBytes bytes e).2 (atCodec (.lzwEnc (lzwEncBytes bytes e).1) s) := by
  induction bytes generalizing s e with
  | nil => rw [lzwEncBytes, emitOut_nil, atCodec_self hc, List.foldl_nil]
  | cons b bs ih =>
    have hfeed : lzwEncFeed b s = emitOut (lzwEncByte b e).2 (atCodec (.lzwEnc (lzwEncByte b e).1) s) := by
      simp [lzwEncFeed, hc, atCodec]
    rw [List.foldl_cons, hfeed, ih (s := emitOut _ (atCodec (.lzwEnc (lzwEncByte b e).1) s)) rfl, lzwEncBytes,
      ← emitOut_emitOut]
    rfl

/-- The chained encode whose predictor stands as in `s`: the encoder `e` has taken what the predictor has emitted, and
`sent` was emitted before. -/
def asEncoding (sent : List Byte) (e : LzwEnc) (s : State) : State :=
  { s with
    unit := .lzw
    chain := true
    codec := if s.phase = .active then some (.lzwEnc (lzwEncBytes s.out e).1) else none
    out := if s.phase = .active then sent ++ (lzwEncBytes s.out e).2 else [] }

theorem asEncoding_codec {sent : List Byte} {e : LzwEnc} {s : State} (ha : s.phase = .active) :
    (asEncoding sent e s).codec = some (.lzwEnc (lzwEncBytes s.out e).1) := if_pos ha

theorem asEncoding_out {sent : List Byte} {e : LzwEnc} {s : State} (ha : s.phase = .active) :
    (asEncoding sent e s).out = sent ++ (lzwEncBytes s.out e).2 := if_pos ha

theorem pictures_asEncoding (sent : List Byte) (e : LzwEnc) : Pictures .enc (asEncoding sent e) where
  phase _ := rfl
  rows _ := rfl
  latch _ := rfl
  dir_eq _ := rfl
  fault _ _ _ := rfl
  setRows _ _ := rfl
  sink bytes s hdir ha := by
    have hchained : predSink bytes (asEncoding sent e s) =
        bytes.foldl (fun t b => lzwEncFeed b t) (asEncoding sent e s) := if_pos ⟨rfl, hdir⟩
    rw [hchained, foldl_lzwEncFeed_eq bytes (asEncoding_codec ha)]
    simp [asEncoding, emitOut, atCodec, ha, lzwEncBytes_append]

theorem byteStep_asEncoding {sent : List Byte} {e : LzwEnc} {s : State} (ha : s.phase = .active) (b : Byte) :
    byteStep b (asEncoding sent e s) = predByte b (asEncoding sent e s) := by
  have hchain : (asEncoding sent e s).chain = true := rfl
  simp [byteStep, asEncoding_codec ha, hchain]

theorem pushBytes_asEncoding {s : State} (h : PredAlone .enc s) (sent : List Byte) (e : LzwEnc) (bytes : List Byte) :
    pushBytes bytes (asEncoding sent e s) = asEncoding sent e (predFeed bytes s) := by
  induction bytes generalizing s with
  | nil => rfl
  | cons b bs ih =>
    by_cases ha : s.phase = .active
    · have hactive : (asEncoding sent e s).phase = .active := ha
      rw [pushBytes_cons hactive, byteStep_asEncoding ha, (pictures_asEncoding sent e).predByte h ha,
        ih (h.predByte ha b), predFeed, if_pos ha]
    · have hinactive : (asEncoding sent e s).phase ≠ .active := ha
      rw [pushBytes_inactive _ _ hinactive, predFeed_inactive _ _ ha]

/-- FINISH of a chained encode: the predictor's end of stream, then the encoder's. -/
theorem completed_asEncoding {s : State} (h : PredAlone .enc s) (sent : List Byte) {e : LzwEnc} (hl : e.lead = false) :
    completed (unlessFaulted finishStages (asEncoding sent e s)) =
      (completed (unlessFaulted predFinish s)).map fun m =>
        sent ++ (lzwEncBytes m e).2 ++ (lzwEncFinish (lzwEncBytes m e).1).2 := by
  have hphase (t : State) : (asEncoding sent e t).phase = t.phase := rfl
  by_cases ha : s.phase = .active
  · have hopen : openStream (asEncoding sent e s) = asEncoding sent e s :=
      openStream_opened (asEncoding_codec ha) ((lzwEncBytes_lead _ e).trans hl)
    have hchain : (asEncoding sent e s).chain = true := rfl
    have hstages : finishStages (asEncoding sent e s) = unlessFaulted lzwEncFlush (asEncoding sent e (predFinish s)) := by
      simp only [finishStages, asEncoding_codec ha, hchain, if_true, hopen, (pictures_asEncoding sent e).predFinish h ha]
    rw [unlessFaulted_active ((hphase s).trans ha), unlessFaulted_active ha, hstages]
    by_cases hp : (predFinish s).phase = .active
    · have hflush : (lzwEncFlush (asEncoding sent e (predFinish s))).out =
          (asEncoding sent e (predFinish s)).out ++ (lzwEncFinish (lzwEncBytes (predFinish s).out e).1).2 := by
        simp [lzwEncFlush, asEncoding_codec hp]
      have hactive := (hphase _).trans hp
      rw [unlessFaulted_active hactive, completed_active hp,
        completed_active ((lzwEncFlush_runs _).phase.trans hactive), hflush, asEncoding_out hp, Option.map_some]
    · have hinactive : (asEncoding sent e (predFinish s)).phase ≠ .active := hp
      rw [unlessFaulted_inactive hinactive, completed_inactive hinactive, completed_inactive hp, Option.map_none]
  · have hinactive : (asEncoding sent e s).phase ≠ .active := ha
    rw [unlessFaulted_inactive hinactive, unlessFaulted_inactive ha, completed_inactive hinactive,
      completed_inactive ha, Option.map_none]

/-! ## Decode: LZW, then PRED (R251) -/

/-- The chained decode whose predictor stands as in `s` and whose LZW decoder has the codec state `c` and `fin`. -/
def asDecoding (c : Codec) (fin : Bool) (s : State) : State :=
  { s with unit := .lzw, chain := true, fin := fin, codec := if s.phase = .active then some c else none }

theorem asDecoding_codec {c : Codec} {fin : Bool} {s : State} (ha : s.phase = .active) :
    (asDecoding c fin s).codec = some c := if_pos ha

theorem pictures_asDecoding (c : Codec) (fin : Bool) : Pictures .dec (asDecoding c fin) where
  phase _ := rfl
  rows _ := rfl
  latch _ := rfl
  dir_eq _ := rfl
  fault _ _ _ := rfl
  setRows _ _ := rfl
  sink bytes s hdir _ := by
    have hout : predSink bytes (asDecoding c fin s) = emitOut bytes (asDecoding c fin s) :=
      if_neg fun hc => absurd (hdir.symm.trans hc.2) (by decide)
    rw [hout]
    rfl

/-- LZW alone is decoding. -/
structure LzwAlone (d : LzwDec) (s : State) : Prop where
  phase : s.phase = .active
  chain : s.chain = false
  codec : s.codec = some (.lzwDec d)

/-- Nothing that LZW alone emits later undoes a fault of the predictor (R266). -/
theorem predRun_of_prefix_faulted {bytes more : List Byte} {s : State} (hpre : bytes <+: more)
    (hf : (predFeed bytes s).phase ≠ .active) : predRun more s = none := by
  obtain ⟨rest, rfl⟩ := hpre
  rw [predRun, predFeed_append, predFeed_inactive _ _ hf, unlessFaulted_inactive hf, completed_inactive hf]

/-- What is emitted stays at the front of the result. -/
theorem prefix_of_completed {s t : State} {out : List Byte} (h : Rules s t) (hc : completed t = some out) :
    s.out <+: out := by
  by_cases ha : t.phase = .active
  · rw [completed_active ha] at hc
    obtain rfl := Option.some.inj hc
    exact (h.runs ha).out
  · cases (completed_inactive ha).symm.trans hc

theorem lzwDecFinish_ended {s : State} (hf : s.fin = true) (d : LzwDec) : lzwDecFinish d s = s := if_pos hf

theorem lzwDecFinish_unended {s : State} (hf : s.fin = false) (d : LzwDec) : (lzwDecFinish d s).phase ≠ .active := by
  simp only [lzwDecFinish, hf, Bool.false_eq_true, if_false]
  split <;> exact fun h => nomatch h

theorem LzwAlone.finishStages_eq {d : LzwDec} {s : State} (h : LzwAlone d s) : finishStages s = lzwDecFinish d s := by
  simp [finishStages, h.codec, h.chain]

theorem finishStages_asDecoding {d : LzwDec} {fin : Bool} {p : State} (ha : p.phase = .active) :
    finishStages (asDecoding (.lzwDec d) fin p) =
      unlessFaulted predFinish (lzwDecFinish d (asDecoding (.lzwDec d) fin p)) := by
  have hchain : (asDecoding (.lzwDec d) fin p).chain = true := rfl
  simp [finishStages, asDecoding_codec ha, hchain]

theorem byteStep_lzwDec_ended {s : State} {d : LzwDec} (hc : s.codec = some (.lzwDec d)) (hf : s.fin = true) (b : Byte) :
    byteStep b s = s := by
  simp [byteStep, hc, hf]

/-- The codec state of a chained decode is replaced under the picture. -/
theorem withCodec_asDecoding {c c' : Codec} {fin fin' : Bool} {p : State} (ha : p.phase = .active) :
    { asDecoding c fin p with codec := some c', fin := fin' } = asDecoding c' fin' p := by
  simp [asDecoding, ha]

/-- Where the predictor has faulted on what LZW alone has emitted so far, neither order has a result. -/
theorem completed_chainedDecode_faulted {s p : State} (bytes : List Byte) (c : Codec)
    (hf : (predFeed s.out p).phase ≠ .active) :
    completed (unlessFaulted finishStages (pushBytes bytes (asDecoding c s.fin (predFeed s.out p)))) =
      (completed (unlessFaulted finishStages (pushBytes bytes s))).bind fun m => predRun m p := by
  have hinactive : (asDecoding c s.fin (predFeed s.out p)).phase ≠ .active := hf
  have hrules := unlessFaulted_rules finishStages (pushBytes_rules bytes s) finishStages_rules
  rw [pushBytes_inactive _ _ hinactive, unlessFaulted_inactive hinactive, completed_inactive hinactive]
  cases hm : completed (unlessFaulted finishStages (pushBytes bytes s)) with
  | none => rfl
  | some m => exact (predRun_of_prefix_faulted (prefix_of_completed hrules hm) hf).symm

section
variable {p : State} (hp : PredAlone .dec p)
include hp

/-- FINISH of a chained decode: the decoder's end of stream, then the predictor's. -/
theorem completed_asDecoding {d : LzwDec} {s : State} (h : LzwAlone d s) (ha : (predFeed s.out p).phase = .active) :
    completed (finishStages (asDecoding (.lzwDec d) s.fin (predFeed s.out p))) =
      (completed (finishStages s)).bind fun m => predRun m p := by
  rw [finishStages_asDecoding ha, h.finishStages_eq]
  set c := asDecoding (.lzwDec d) s.fin (predFeed s.out p) with hc
  cases hf : s.fin with
  | true =>
    have hpred := (pictures_asDecoding (.lzwDec d) s.fin).unlessFaulted_predFinish (hp.predFeed s.out)
    rw [lzwDecFinish_ended (s := c) hf, lzwDecFinish_ended hf, completed_active h.phase, hc, hpred]
    rfl
  | false =>
    have hfault := lzwDecFinish_unended (s := c) hf d
    rw [unlessFaulted_inactive hfault, completed_inactive hfault, completed_inactive (lzwDecFinish_unended hf d)]
    rfl

/-- A string of the decoder goes to the predictor (R251). -/
theorem lzwAnswer_asDecoding (d : LzwDec) (bytes : List Byte) (term : Bool) (c : Codec) (fin : Bool)
    (ha : p.phase = .active) :
    lzwAnswer (.emit d bytes term) (asDecoding c fin p) =
      asDecoding (.lzwDec d) (fin || term) (predFeed bytes p) := by
  have hfin : (asDecoding c fin p).fin = fin := rfl
  rw [lzwAnswer_emit, hfin, withCodec_asDecoding ha, ← (pictures_asDecoding _ _).predFeed hp]
  exact if_pos rfl

/-- The chained decode and LZW alone agree after a byte: both go on, or both have faulted. -/
theorem byteStep_asDecoding {d : LzwDec} {s : State} (h : LzwAlone d s) (ha : (predFeed s.out p).phase = .active)
    (b : Byte) :
    (∃ d', LzwAlone d' (byteStep b s) ∧
      byteStep b (asDecoding (.lzwDec d) s.fin (predFeed s.out p)) =
        asDecoding (.lzwDec d') (byteStep b s).fin (predFeed (byteStep b s).out p)) ∨
    ((byteStep b s).phase ≠ .active ∧
      (byteStep b (asDecoding (.lzwDec d) s.fin (predFeed s.out p))).phase ≠ .active) := by
  set c := asDecoding (.lzwDec d) s.fin (predFeed s.out p) with hc
  have hcodec : c.codec = some (.lzwDec d) := asDecoding_codec ha
  by_cases hf : s.fin = true
  · rw [byteStep_lzwDec_ended h.codec hf, byteStep_lzwDec_ended hcodec hf]
    exact .inl ⟨d, h, hc⟩
  · have hfin : s.fin = false := by simpa using hf
    rw [byteStep_lzwDec ⟨h.phase, h.codec, hfin⟩, byteStep_lzwDec (s := c) ⟨ha, hcodec, hfin⟩]
    unfold lzwDecByte
    split
    next d' _ =>
      refine .inl ⟨d', ⟨h.phase, h.chain, rfl⟩, ?_⟩
      exact withCodec_asDecoding ha
    next code d' _ =>
      cases lzwDecodeStep code d' with
      | raise cause sym => exact .inr ⟨(fun hact => nomatch hact), (fun hact => nomatch hact)⟩
      | emit d'' bytes term =>
        have halone : lzwAnswer (.emit d'' bytes term) s =
            emitOut bytes { s with codec := some (.lzwDec d''), fin := s.fin || term } := by
          rw [lzwAnswer_emit, lzwDecSink]
          exact if_neg (by simp [h.chain])
        refine .inl ⟨d'', ?_, ?_⟩
        · rw [halone]
          exact ⟨h.phase, h.chain, rfl⟩
        · rw [halone, hc, lzwAnswer_asDecoding (hp.predFeed s.out) _ _ _ _ _ ha, ← predFeed_append]
          rfl

/-- A chained decode ends as PRED alone does on what LZW alone emits (R251). -/
theorem completed_chainedDecode (bytes : List Byte) {d : LzwDec} {s : State} (h : LzwAlone d s) :
    completed (unlessFaulted finishStages (pushBytes bytes (asDecoding (.lzwDec d) s.fin (predFeed s.out p)))) =
      (completed (unlessFaulted finishStages (pushBytes bytes s))).bind fun m => predRun m p := by
  induction bytes generalizing d s with
  | nil =>
    by_cases ha : (predFeed s.out p).phase = .active
    · have hactive : (asDecoding (.lzwDec d) s.fin (predFeed s.out p)).phase = .active := ha
      rw [pushBytes_nil, pushBytes_nil, unlessFaulted_active hactive, unlessFaulted_active h.phase]
      exact completed_asDecoding hp h ha
    · exact completed_chainedDecode_faulted [] _ ha
  | cons b bs ih =>
    by_cases ha : (predFeed s.out p).phase = .active
    · have hactive : (asDecoding (.lzwDec d) s.fin (predFeed s.out p)).phase = .active := ha
      rw [pushBytes_cons hactive, pushBytes_cons h.phase]
      obtain ⟨d', halone, hchained⟩ | ⟨hf, hcf⟩ := byteStep_asDecoding hp h ha b
      · rw [hchained]
        exact ih halone
      · rw [pushBytes_inactive _ _ hf, pushBytes_inactive _ _ hcf, unlessFaulted_inactive hf,
          unlessFaulted_inactive hcf, completed_inactive hf, completed_inactive hcf]
        rfl
    · exact completed_chainedDecode_faulted (b :: bs) _ ha

end

/-! ## The two runs -/

section
variable {s : State} {dir : Direction} (h : startChecks s.cfg .pred dir (latchOf s) = true)
include h

theorem predAlone_started : PredAlone dir (started .pred dir s) := by
  rw [started_eq h]
  exact ⟨rfl, rfl, fun _ => by cases dir <;> rfl⟩

theorem transcode_pred_eq (hmax : s.cfg.chunkMax = none) (b : List Byte) :
    transcode .pred dir b s = predRun b (started .pred dir s) := by
  rw [transcode_eq_completed hmax b h, (opened_started_pred h).openStream_eq, (predAlone_started h).completed_eq]

end

section
variable {s : State} (hne : s.predictor ≠ 1#32)
include hne

/-- A chained encode starts as the picture of PRED alone that has emitted nothing (R123, R250). -/
theorem started_lzw_enc (h : startChecks s.cfg .pred .enc (latchOf s) = true) :
    openStream (started .lzw .enc s) =
      asEncoding (lzwOpening (lzwEncInit (latchOf s).leadclr)).2 (lzwOpening (lzwEncInit (latchOf s).leadclr)).1
        (started .pred .enc s) := by
  have hchain : (latchOf s).pred != 1#32 := bne_iff_ne.2 hne
  have hcodec : (started .lzw .enc s).codec = some (.lzwEnc (lzwEncInit (latchOf s).leadclr)) := by
    rw [started_eq (unit := .lzw) h]
    rfl
  rw [openStream_lzwEnc hcodec, started_eq (unit := .lzw) h, started_eq h]
  simp [asEncoding, atCodec, emitOut, lzwEncBytes, startLatch, hchain, startRows, predictorOn]

/-- A chained decode starts as the picture of PRED alone that has taken nothing (R123, R250). -/
theorem started_lzw_dec (h : startChecks s.cfg .pred .dec (latchOf s) = true) :
    started .lzw .dec s = asDecoding (.lzwDec lzwDecInit) false (started .pred .dec s) := by
  have hchain : (latchOf s).pred != 1#32 := bne_iff_ne.2 hne
  have hcreated : createdCodec .lzw .dec (latchOf s) = .lzwDec lzwDecInit := rfl
  rw [started_eq (unit := .lzw) h, started_eq h]
  simp [asDecoding, startLatch, hchain, startRows, predictorOn, hcreated]

variable (hmax : s.cfg.chunkMax = none) (b : List Byte)
include hmax

theorem chainedEncode_eq :
    transcode .lzw .enc b s =
      (transcode .pred .enc b s).bind fun m => transcode .lzw .enc m { s with predictor := 1#32 } := by
  have hlzw (m : List Byte) := transcode_lzw_enc (s := { s with predictor := 1#32 }) hmax rfl m
  by_cases h : startChecks s.cfg .pred .enc (latchOf s) = true
  · have hpred := predAlone_started h
    rw [transcode_eq_completed hmax b (unit := .lzw) h, started_lzw_enc hne h, pushBytes_asEncoding hpred,
      completed_asEncoding (hpred.predFeed b) _ (lzwOpening_lead _), transcode_pred_eq h hmax, predRun]
    simp only [hlzw]
    exact Option.map_eq_bind
  · rw [transcode_eq_none hmax b (unit := .lzw) h, transcode_eq_none hmax b h, Option.bind_none]

theorem chainedDecode_eq :
    transcode .lzw .dec b s =
      (transcode .lzw .dec b { s with predictor := 1#32 }).bind fun m => transcode .pred .dec m s := by
  by_cases h : startChecks s.cfg .pred .dec (latchOf s) = true
  · set alone : State := { s with predictor := 1#32 }
    have hcheck : startChecks alone.cfg .lzw .dec (latchOf alone) = true := startChecks_lzw _ _ rfl
    have hpred := predAlone_started h
    have hstart : LzwAlone lzwDecInit (started .lzw .dec alone) := by
      rw [started_eq hcheck]
      exact ⟨rfl, rfl, rfl⟩
    have hfin : (started .lzw .dec alone).fin = false := by
      rw [started_eq hcheck]
      rfl
    have hopened : Opened (started .lzw .dec s) := by
      rw [started_eq (unit := .lzw) h]
      exact opened_of_codec rfl fun _ => Codec.noConfusion
    have hrun := completed_chainedDecode hpred b hstart
    rw [hfin, started_out, predFeed_nil, ← started_lzw_dec hne h] at hrun
    rw [transcode_eq_completed hmax b (unit := .lzw) h, hopened.openStream_eq, hrun,
      transcode_eq_completed (s := alone) hmax b hcheck,
      (opened_of_codec hstart.codec fun _ => Codec.noConfusion).openStream_eq]
    simp only [transcode_pred_eq h hmax]
  · have hnone (m : List Byte) := transcode_eq_none hmax m h
    rw [transcode_eq_none hmax b (unit := .lzw) h]
    simp only [hnone]
    exact (Option.bind_fun_none _).symm

end

/-- Settles O55: without a predictor the second unit is the identity; with one, by the pictures above. -/
theorem chainEqualsTwoUnits : Obligations.ChainEqualsTwoUnits := by
  unfold Obligations.ChainEqualsTwoUnits
  intro s b hmax
  by_cases hp : s.predictor = 1#32
  · simp only [transcode_pred_one hmax hp, withPredictor_one hp]
    exact ⟨rfl, (Option.bind_fun_some _).symm⟩
  · exact ⟨chainedEncode_eq hp hmax b, chainedDecode_eq hp hmax b⟩

end Sys2Proof.Machine
end
